-- ==== Sys2Proof/Word.lean ====
section
/-! DEFINITION. The plain words of the part: bytes of the management port, beats and addresses of the path link, and
values of the time base. -/

namespace Sys2Proof

/-- One byte on the management port (R168). -/
abbrev Byte := BitVec 8

/-- One data beat of the path link, 32 bytes (00, Units and time). Its content is carried, never read. -/
abbrev Beat := BitVec 256

/-- A 40-bit byte address (R1). -/
abbrev Address := BitVec 40

/-- A value of the time base: a 32-bit count of T0 ticks that wraps (R87). -/
abbrev Time := BitVec 32

/-- A 32-bit counter of the Measurement Unit (R147). -/
abbrev Counter := BitVec 32

/-- The level of a pin: low or high at the pin, whatever the signal's name (00, Conventions). -/
inductive Level where
  | low
  | high
  deriving DecidableEq, Repr, Inhabited

end Sys2Proof
end

