-- ==== Sys2Proof/Config.lean ====
section
/-! DEFINITION. What the CG-2410 fixes for every part (capacities and identification values), and the two free values of
the model. -/

namespace Sys2Proof.Config

/-- Tickets in the pool (R6). -/
abbrev ticketPool : Nat := 160

/-- Capacity of the event queue (R156). -/
abbrev eventCapacity : Nat := 32

/-- The longest payload a management command may carry (R168). -/
abbrev maxPayload : Nat := 48

/-- The largest charge of a request, 16 beats at weight 4 (R27); also the smallest ceiling (R35). -/
abbrev minCeiling : Nat := 64

/-- The largest ceiling of a contract (R35). -/
abbrev maxCeiling : Nat := 65535

/-- IDENTIFY's vendor code (R175). -/
abbrev vendorCode : Nat := 0x0C5E

/-- IDENTIFY's part code (R175). -/
abbrev partCode : Nat := 0x2410

/-- IDENTIFY's revision (R175). -/
abbrev revision : Nat := 1

/-- FREE VALUE (log 2, log 20; DESIGN CHOICE; safe). Which of several things that may come next when no command waits is taken
first: R98 and R134 allow either order of events that are due together, and R168 lets traffic and timers go on while a command is
clocked in. It is applied to the counter `State.choices`; it has no body, so no proof can lean on a value of it. -/
opaque idleChoice : Nat → Nat

/-- FREE VALUE (log 21; DESIGN CHOICE; safe). The level of MDO in the MCS_N-low period that the port ignores after a rise of RESET_N:
R169 gives none. It is applied to the counter `State.choices`, and has no body. -/
opaque ignoredMdo : Nat → Level

end Sys2Proof.Config
end

