-- ==== Sys2Proof/Syntax.lean ====
section
/-! DEFINITION. The path-link messages and the commands: one constructor of `Instr` for each row of spec/opcode_table.json, with the row's operands. -/

namespace Sys2Proof

/-- The kind of a well-formed request (R1). -/
inductive Kind where
  | read
  | write
  deriving DecidableEq, Repr

/-- Why a request is refused (R3). -/
inductive Reason where
  | malformed
  | blocked
  | barred
  | spent
  | storeFull
  | holdFull
  | waitExpired
  deriving DecidableEq, Repr

/-- The status of a completion handed over at the U-port; the reason is present with REFUSED only (R2, R3). -/
inductive CplStatus where
  | ok
  | memError
  | refused (reason : Reason)
  | timeout
  | aborted
  deriving DecidableEq, Repr

/-- A completion on its way to the upstream partner (R2). -/
structure Completion where
  source : Fin 32
  tag    : Fin 64
  status : CplStatus
  data   : List Beat
  deriving DecidableEq, Repr

/-- A request as the U-port reads it at the take (R1). `kind` is `none` for a code that is neither READ nor WRITE. -/
structure Request where
  kind    : Option Kind
  source  : Fin 32
  tag     : Fin 64
  address : Address
  beats   : Nat
  data    : List Beat
  deriving DecidableEq, Repr

/-- A request as the D-port sends it, with the downstream tag in place of the upstream tag (R4). -/
structure DRequest where
  kind    : Kind
  source  : Fin 32
  tag     : Fin 64
  address : Address
  beats   : Nat
  data    : List Beat
  deriving DecidableEq, Repr

/-- A completion as the D-port takes it: its downstream tag, whether its status is read as OK, and its data (R4). -/
structure DCompletion where
  tag  : Fin 64
  isOk : Bool
  data : List Beat
  deriving DecidableEq, Repr

/-- The five source commands of SOURCE_COMMAND (R39). -/
inductive SourceCmd where
  | enable
  | disable
  | bar
  | unbar
  | arm
  deriving DecidableEq, Repr

/-- What a management command carries on the wire behind its opcode byte: the index byte, the length byte N and the payload
bytes that the port read (R168, R182). When N is above 48 the port reads no payload. -/
structure Frame where
  index   : Byte
  len     : Byte
  payload : List Byte
  deriving DecidableEq, Repr

/-- One command: an event at a pin or a port of the part, an event of the part itself that falls due, or a management
command at its take. One constructor for each row of spec/opcode_table.json, in the table's order. -/
inductive Instr where
  /-- POWER_ON_RESET (R21): RESET_N rises; the operand is the level of MCS_N at the rise (R174). -/
  | powerOnReset (mcsN : Level)
  /-- RESET_N_FALL (R21). -/
  | resetNFall
  /-- UPSTREAM_RESET (R18): UP_RDY falls. -/
  | upstreamReset
  /-- UP_RDY_RISE (R20). -/
  | upRdyRise
  /-- DOWNSTREAM_DOWN (R136): DN_RDY falls. -/
  | downstreamDown
  /-- DOWNSTREAM_UP (R112): DN_RDY rises, or is first seen high after RESET_N rose. -/
  | downstreamUp
  /-- TAKE (R5): the upstream partner presents a request message, its 8-byte header (R180) and its data beats. -/
  | take (header : BitVec 64) (data : List Beat)
  /-- HAND_OVER (R13): the upstream partner accepts the offered completion. -/
  | handOver
  /-- GRANT (R118): the arbiter takes one grant. -/
  | grant
  /-- DOWNSTREAM_COMPLETION (R128): the memory controller presents a completion message, its 4-byte header (R181) and its
  data beats. -/
  | downstreamCompletion (header : BitVec 32) (data : List Beat)
  /-- RESPONSE_TIMEOUT (R134) of one Outstanding Table entry. -/
  | responseTimeout (entry : Fin 64)
  /-- BOUNDARY (R92) of one source in RELOAD mode. -/
  | boundary (source : Fin 32)
  /-- HEAD_EXPIRY (R73) of the head of one source's hold list. -/
  | headExpiry (source : Fin 32)
  /-- WINDOW_END (R96) of one source in ONE_SHOT mode. -/
  | windowEnd (source : Fin 32)
  /-- TRIGGER_PIN_CHANGE (R101): a trigger pin takes a new level. -/
  | triggerPinChange (line : Fin 4) (level : Level)
  /-- TRANSITION_SETTLES (R101): a line's pending transition reaches its due time. -/
  | transitionSettles (line : Fin 4)
  /-- COMMAND_CUT (R170): MCS_N rises before the take; the operand is the complete command bytes received. -/
  | commandCut (bytes : List Byte)
  /-- RESPONSE_CUT (R171): MCS_N rises during the response; the operand is the number of response bytes completed. -/
  | responseCut (bytesDone : Nat)
  /-- UNKNOWN_OPCODE (R173). -/
  | unknownOpcode (opcode : Byte) (frame : Frame)
  /-- IDENTIFY (R175). -/
  | identify (frame : Frame)
  /-- STATUS (R176). -/
  | status (frame : Frame)
  /-- TIME_READ (R87). -/
  | timeRead (frame : Frame)
  /-- CONTRACT_READ (R52). -/
  | contractRead (frame : Frame)
  /-- CONTRACT_WRITE (R47). -/
  | contractWrite (frame : Frame)
  /-- ENABLE (R40): SOURCE_COMMAND with code 1. -/
  | enable (frame : Frame)
  /-- DISABLE (R41): SOURCE_COMMAND with code 2. -/
  | disable (frame : Frame)
  /-- BAR (R43): SOURCE_COMMAND with code 3. -/
  | bar (frame : Frame)
  /-- UNBAR (R45): SOURCE_COMMAND with code 4. -/
  | unbar (frame : Frame)
  /-- ARM (R46): SOURCE_COMMAND with code 5. -/
  | arm (frame : Frame)
  /-- HOLD_READ (R86). -/
  | holdRead (frame : Frame)
  /-- REGION_READ (R30). -/
  | regionRead (frame : Frame)
  /-- REGION_WRITE (R29). -/
  | regionWrite (frame : Frame)
  /-- CLASS_READ (R122). -/
  | classRead (frame : Frame)
  /-- CLASS_WRITE (R121). -/
  | classWrite (frame : Frame)
  /-- LINE_READ (R105). -/
  | lineRead (frame : Frame)
  /-- LINE_WRITE (R105). -/
  | lineWrite (frame : Frame)
  /-- GLOBAL_READ (R177). -/
  | globalRead (frame : Frame)
  /-- GLOBAL_WRITE (R177). -/
  | globalWrite (frame : Frame)
  /-- COUNTERS_READ (R152) with the clear flag not set. -/
  | countersRead (frame : Frame)
  /-- COUNTERS_READ (R153) with the clear flag set. -/
  | countersReadClear (frame : Frame)
  /-- EVENT_READ (R163). -/
  | eventRead (frame : Frame)
  /-- EVENT_RELEASE (R164). -/
  | eventRelease (frame : Frame)
  /-- TRAFFIC_RESET (R178). -/
  | trafficReset (frame : Frame)
  deriving DecidableEq, Repr

end Sys2Proof
end

