-- ==== Sys2Proof/Decode.lean ====
section
/-! DEFINITION. The wire formats that carry commands: path-link message headers (R180, R181), the management frame with its
opcodes (R168, R182, R183), and `decodeTableWord`. No row of spec/opcode_table.json gives bits, so `decodeTableWord` spells no
command; the management frame's own parser and its encoder follow R168 and R183. -/

namespace Sys2Proof

/-! ### Path-link messages -/

/-- The 8-byte request header, bits 63..62 kind, 61..57 source, 56..51 tag, 50..47 beats − 1, 46..7 address; bits 6..0 are
ignored (R180). The port counts the data beats itself (R1). -/
def Request.ofMessage (header : BitVec 64) (data : List Beat) : Request where
  kind :=
    if header.extractLsb' 62 2 = 0#2 then some .read
    else if header.extractLsb' 62 2 = 1#2 then some .write
    else none
  source := (header.extractLsb' 57 5).toFin
  tag := (header.extractLsb' 51 6).toFin
  address := header.extractLsb' 7 40
  beats := (header.extractLsb' 47 4).toNat + 1
  data := data

/-- The kind code of R180. -/
def Kind.code : Kind → BitVec 2
  | .read => 0#2
  | .write => 1#2

/-- The 8-byte header of a request, laid out as R180 gives, bits 6..0 sent as 0. -/
def DRequest.header (r : DRequest) : BitVec 64 :=
  r.kind.code ++ BitVec.ofFin (w := 5) r.source ++ BitVec.ofFin (w := 6) r.tag
    ++ BitVec.ofNat 4 (r.beats - 1) ++ r.address ++ 0#7

/-- The refusal reason codes of R181. -/
def Reason.code : Reason → Nat
  | .malformed => 1
  | .blocked => 2
  | .barred => 3
  | .spent => 4
  | .storeFull => 5
  | .holdFull => 6
  | .waitExpired => 7

/-- The completion status codes of R181. -/
def CplStatus.code : CplStatus → Nat
  | .ok => 0
  | .memError => 1
  | .refused _ => 2
  | .timeout => 3
  | .aborted => 4

/-- The reason field of a completion: 0 for every status but REFUSED (R181). -/
def CplStatus.reasonCode : CplStatus → Nat
  | .refused r => r.code
  | _ => 0

/-- The 4-byte header of a completion sent at the U-port (R181). -/
def Completion.header (c : Completion) : BitVec 32 :=
  BitVec.ofNat 3 c.status.code ++ BitVec.ofNat 3 c.status.reasonCode ++ BitVec.ofFin (w := 5) c.source
    ++ BitVec.ofFin (w := 6) c.tag ++ 0#15

/-- A completion taken at the D-port: status code 0 is read as OK and codes 1..7 as MEM_ERROR; reason, source and bits 14..0
are ignored (R4, R181). -/
def DCompletion.ofMessage (header : BitVec 32) (data : List Beat) : DCompletion where
  tag := (header.extractLsb' 15 6).toFin
  isOk := header.extractLsb' 29 3 = 0#3
  data := data

/-! ### Fields of a management frame -/

/-- The payload byte at offset `i`; 0 past the payload's end, which a frame of the checked length does not reach. -/
def Frame.u8 (f : Frame) (i : Nat) : Nat := (f.payload.getD i 0#8).toNat

/-- The two-byte payload field at offset `i`, most significant byte first (10, section 10.6). -/
def Frame.u16 (f : Frame) (i : Nat) : Nat := 256 * f.u8 i + f.u8 (i + 1)

/-- The four-byte payload field at offset `i`, most significant byte first. -/
def Frame.u32 (f : Frame) (i : Nat) : Nat := 65536 * f.u16 i + f.u16 (i + 2)

/-- Whether a frame's length byte is above 48, which R173 judges before a command's own checks. -/
def Frame.tooLong (f : Frame) : Bool := Config.maxPayload < f.len.toNat

/-- Whether the length byte fails the length check of a command whose payload length is `n` (R173). -/
def Frame.badLength (f : Frame) (n : Nat) : Bool := f.len.toNat ≠ n

/-- The command codes of SOURCE_COMMAND (R184). -/
def SourceCmd.ofCode : Nat → Option SourceCmd
  | 1 => some .enable
  | 2 => some .disable
  | 3 => some .bar
  | 4 => some .unbar
  | 5 => some .arm
  | _ => none

/-- The source command a SOURCE_COMMAND frame stands for: the one its first payload byte names, and ENABLE for a frame that
names none (log 11; DESIGN CHOICE: the table has no row of its own for such a frame, and all five rows answer it alike). -/
def SourceCmd.ofFrame (f : Frame) : SourceCmd :=
  ((f.payload.head?.map BitVec.toNat).bind SourceCmd.ofCode).getD .enable

/-- Whether a COUNTERS_READ frame has its clear flag set: the second payload byte is 1 (R184). -/
def Frame.clearFlag (f : Frame) : Bool := f.payload[1]? = some 1#8

/-! ### Opcodes and the frame parser -/

/-- The command a complete management frame carries, by its opcode (R183). -/
def commandOf (opcode : Byte) (f : Frame) : Instr :=
  match opcode.toNat with
  | 0x01 => .identify f
  | 0x02 => .status f
  | 0x03 => .timeRead f
  | 0x10 => .contractRead f
  | 0x11 => .contractWrite f
  | 0x12 =>
    match SourceCmd.ofFrame f with
    | .enable => .enable f
    | .disable => .disable f
    | .bar => .bar f
    | .unbar => .unbar f
    | .arm => .arm f
  | 0x13 => .holdRead f
  | 0x20 => .regionRead f
  | 0x21 => .regionWrite f
  | 0x28 => .classRead f
  | 0x29 => .classWrite f
  | 0x30 => .lineRead f
  | 0x31 => .lineWrite f
  | 0x38 => .globalRead f
  | 0x39 => .globalWrite f
  | 0x40 => if f.clearFlag then .countersReadClear f else .countersRead f
  | 0x48 => .eventRead f
  | 0x49 => .eventRelease f
  | 0x50 => .trafficReset f
  | _ => .unknownOpcode opcode f

/-- Whether an opcode byte names a command of R183. -/
def knownOpcode (opcode : Byte) : Bool :=
  opcode.toNat ∈ [0x01, 0x02, 0x03, 0x10, 0x11, 0x12, 0x13, 0x20, 0x21, 0x28, 0x29, 0x30, 0x31, 0x38, 0x39, 0x40, 0x48,
    0x49, 0x50]

/-- How many payload bytes the port reads after a length byte: N, and none above 48 (R168). -/
def payloadRead (len : Byte) : Nat := if len.toNat ≤ Config.maxPayload then len.toNat else 0

/-- Whether bytes clocked in on MDI reach the take of a command (R168). -/
def reachesTake : List Byte → Bool
  | _ :: _ :: len :: payload => payloadRead len ≤ payload.length
  | _ => false

/-- What the complete MDI bytes of one MCS_N-low period are: nothing for no byte, a cut command where the take is not
reached (R170), and else the command taken; the bytes after the take are ignored (R168, R169). -/
def decodeFrame : List Byte → Option Instr
  | [] => none
  | opcode :: index :: len :: rest =>
    if reachesTake (opcode :: index :: len :: rest) then
      some (commandOf opcode ⟨index, len, rest.take (payloadRead len)⟩)
    else some (.commandCut (opcode :: index :: len :: rest))
  | bytes => some (.commandCut bytes)

/-- The opcode byte a command is sent with, for the commands of the management port (R183). -/
def Instr.opcode? : Instr → Option Byte
  | .unknownOpcode opcode _ => some opcode
  | .identify _ => some 0x01#8
  | .status _ => some 0x02#8
  | .timeRead _ => some 0x03#8
  | .contractRead _ => some 0x10#8
  | .contractWrite _ => some 0x11#8
  | .enable _ => some 0x12#8
  | .disable _ => some 0x12#8
  | .bar _ => some 0x12#8
  | .unbar _ => some 0x12#8
  | .arm _ => some 0x12#8
  | .holdRead _ => some 0x13#8
  | .regionRead _ => some 0x20#8
  | .regionWrite _ => some 0x21#8
  | .classRead _ => some 0x28#8
  | .classWrite _ => some 0x29#8
  | .lineRead _ => some 0x30#8
  | .lineWrite _ => some 0x31#8
  | .globalRead _ => some 0x38#8
  | .globalWrite _ => some 0x39#8
  | .countersRead _ => some 0x40#8
  | .countersReadClear _ => some 0x40#8
  | .eventRead _ => some 0x48#8
  | .eventRelease _ => some 0x49#8
  | .trafficReset _ => some 0x50#8
  | .powerOnReset _ => none
  | .resetNFall => none
  | .upstreamReset => none
  | .upRdyRise => none
  | .downstreamDown => none
  | .downstreamUp => none
  | .take _ _ => none
  | .handOver => none
  | .grant => none
  | .downstreamCompletion _ _ => none
  | .responseTimeout _ => none
  | .boundary _ => none
  | .headExpiry _ => none
  | .windowEnd _ => none
  | .triggerPinChange _ _ => none
  | .transitionSettles _ => none
  | .commandCut _ => none
  | .responseCut _ => none

/-- The frame of a management command. -/
def Instr.frame? : Instr → Option Frame
  | .unknownOpcode _ f => some f
  | .identify f => some f
  | .status f => some f
  | .timeRead f => some f
  | .contractRead f => some f
  | .contractWrite f => some f
  | .enable f => some f
  | .disable f => some f
  | .bar f => some f
  | .unbar f => some f
  | .arm f => some f
  | .holdRead f => some f
  | .regionRead f => some f
  | .regionWrite f => some f
  | .classRead f => some f
  | .classWrite f => some f
  | .lineRead f => some f
  | .lineWrite f => some f
  | .globalRead f => some f
  | .globalWrite f => some f
  | .countersRead f => some f
  | .countersReadClear f => some f
  | .eventRead f => some f
  | .eventRelease f => some f
  | .trafficReset f => some f
  | .powerOnReset _ => none
  | .resetNFall => none
  | .upstreamReset => none
  | .upRdyRise => none
  | .downstreamDown => none
  | .downstreamUp => none
  | .take _ _ => none
  | .handOver => none
  | .grant => none
  | .downstreamCompletion _ _ => none
  | .responseTimeout _ => none
  | .boundary _ => none
  | .headExpiry _ => none
  | .windowEnd _ => none
  | .triggerPinChange _ _ => none
  | .transitionSettles _ => none
  | .commandCut _ => none
  | .responseCut _ => none

/-- The MDI bytes that send a management command: opcode, index, N, payload (R168, R182). -/
def Instr.frameBytes (i : Instr) : Option (List Byte) :=
  match i.opcode?, i.frame? with
  | some opcode, some f => some (opcode :: f.index :: f.len :: f.payload)
  | _, _ => none

/-- No row of spec/opcode_table.json gives bits, so no word spells a command. -/
def decodeTableWord (_nbits _w : Nat) : Option Instr := none

end Sys2Proof
end

