-- ==== Sys2Proof/Machine/State.lean ====
section
/-! DEFINITION. The state of the part: every register, table, queue, counter and pin the spec gives it, the queue of commands
that wait, and the state right after reset. -/

namespace Sys2Proof.Machine

/-! ### Region Decoder (chapter 2) -/

/-- What a region or the unmatched setting gives a request (R27). -/
inductive RegionAction where
  | paced
  | free
  | blocked
  deriving DecidableEq, Repr

/-- A region weight: 1, 2 or 4 (R23). -/
inductive Weight where
  | w1
  | w2
  | w4
  deriving DecidableEq, Repr

/-- One Region Table entry (R23); base and limit are page numbers, bit s of the mask is source s's membership. -/
structure Region where
  valid  : Bool
  base   : Nat
  limit  : Nat
  action : RegionAction
  weight : Weight
  mask   : BitVec 32
  deriving DecidableEq, Repr

/-! ### Source contracts and period timers (chapters 3 and 5) -/

/-- The mode of a contract (R34). -/
inductive Mode where
  | reload
  | oneShot
  | triggered
  deriving DecidableEq, Repr

/-- A tick base (R88). -/
inductive TickBase where
  | t0
  | t1
  | t2
  | t3
  deriving DecidableEq, Repr

/-- What happens to a head that reached its wait limit (R34, R74, R75). -/
inductive WaitAction where
  | refuse
  | force
  deriving DecidableEq, Repr

/-- The eleven settings of a contract (R34). -/
structure Settings where
  mode           : Mode
  cls            : Fin 4
  budget         : Nat
  carry          : Nat
  tickBase       : TickBase
  periodCount    : Nat
  triggerLine    : Fin 4
  edgesPerRefill : Nat
  holdLimit      : Nat
  waitLimit      : Nat
  waitAction     : WaitAction
  deriving DecidableEq, Repr

/-- The state of a contract (R38). -/
inductive SourceState where
  | unpaced
  | paced
  | spent
  | barred
  deriving DecidableEq, Repr

/-- What a running period timer measures (R89). -/
inductive Measure where
  | period
  | window
  deriving DecidableEq, Repr

/-- A period timer (R89). The due time is start + length, modulo 2^32; it is computed, not stored. -/
inductive Timer where
  | stopped
  | running (measure : Measure) (start : Time) (length : Nat)
  deriving DecidableEq, Repr

/-- A contract with its dynamic values and its period timer (R34 to R37, R89). -/
structure Contract where
  settings  : Settings
  state     : SourceState
  balance   : Nat
  edgeCount : Nat
  staged    : Option Settings
  timer     : Timer
  deriving DecidableEq, Repr

/-! ### Request Store (chapter 4) -/

/-- A filled Request Store slot (R59). `slot` is its index. The slot is HELD while the record stands in a hold list and QUEUED
while it stands in a dispatch queue; an index in neither is a FREE slot (R60, log 12). The ticket it holds is counted in
`State.tickets` (R6: tickets are counted, not named). -/
structure StoredReq where
  slot    : Fin 96
  kind    : Kind
  source  : Fin 32
  tag     : Fin 16
  address : Address
  beats   : Nat
  data    : List Beat
  charge  : Nat
  arrival : Time
  deriving DecidableEq, Repr

/-- The state of a Request Store slot (R59), a view computed by `State.slotState`. -/
inductive SlotState where
  | free
  | held
  | queued
  deriving DecidableEq, Repr

/-! ### Dispatch Unit and Completion Unit (chapters 6 and 7) -/

/-- What belongs to one traffic class: default credit, staged default credit, credit count (R110, R111), response limit in µs
(R126) and the seven bin edges E1..E7 at indexes 0..6 (R148). -/
structure ClassRec where
  defaultCredit : Nat
  stagedCredit  : Option Nat
  credits       : Nat
  responseLimit : Nat
  edges         : Vector Nat 7
  deriving DecidableEq, Repr

/-- The arbiter policy (R116, R117). -/
inductive Policy where
  | rotate
  | strict
  deriving DecidableEq, Repr

/-- The recorded fields of an Outstanding Table entry that is not FREE (R124). -/
structure Outstanding where
  source   : Fin 32
  tag      : Fin 16
  cls      : Fin 4
  kind     : Kind
  beats    : Nat
  arrival  : Time
  dispatch : Time
  due      : Option Time
  deriving DecidableEq, Repr

/-- An Outstanding Table entry (R124). -/
inductive Entry where
  | free
  | active (r : Outstanding)
  | orphaned (r : Outstanding)
  deriving DecidableEq, Repr

/-! ### Measurement Unit (chapter 8) -/

/-- The wrapping counters of a source (R143). -/
inductive SourceCounter where
  | arrivals
  | chargedBeats
  | freeBeats
  | forcedBeats
  | heldCount
  | refusedCount
  deriving DecidableEq, Repr

/-- The wrapping counters of a class (R145). -/
inductive ClassCounter where
  | completions
  | bin (b : Fin 8)
  | timeouts
  | late
  | memErrors
  deriving DecidableEq, Repr

/-- The global counters (R146). -/
inductive GlobalCounter where
  | stray
  | duplicates
  | malformed
  deriving DecidableEq, Repr

/-- A source's counter group (R143, R144). -/
structure SourceCounts where
  arrivals     : Counter
  chargedBeats : Counter
  freeBeats    : Counter
  forcedBeats  : Counter
  heldCount    : Counter
  refusedCount : Counter
  maxHoldDepth : Nat
  maxResidence : Counter
  deriving DecidableEq, Repr

/-- A class's counter group (R145, R148, R149). -/
structure ClassCounts where
  completions : Counter
  bins        : Vector Counter 8
  minLatency  : Nat
  maxLatency  : Nat
  timeouts    : Counter
  late        : Counter
  memErrors   : Counter
  deriving DecidableEq, Repr

/-- The global counter group (R146). -/
structure GlobalCounts where
  stray      : Counter
  duplicates : Counter
  malformed  : Counter
  deriving DecidableEq, Repr

/-! ### Event Queue (chapter 9) -/

/-- Which counter a COUNTER_WRAP record names, with the source or class it belongs to (R159). -/
inductive CounterId where
  | source (s : Fin 32) (c : SourceCounter)
  | cls (c : Fin 4) (k : ClassCounter)
  | global (g : GlobalCounter)
  deriving DecidableEq, Repr

/-- The fourteen kinds of event, each with the source, class and detail parts it carries (R158, R159). -/
inductive Event where
  | holdStart (source : Fin 32) (tag : Fin 16)
  | waitExpired (source : Fin 32) (tag : Fin 16) (action : WaitAction)
  | refusal (source : Fin 32) (tag : Fin 64) (reason : Reason)
  | duplicateTag (source : Fin 32) (tag : Fin 16)
  | responseTimeout (source : Fin 32) (cls : Fin 4) (tag : Fin 16) (dtag : Fin 64)
  | lateCompletion (source : Fin 32) (cls : Fin 4) (dtag : Fin 64)
  | strayCompletion (dtag : Fin 64)
  | downstreamDown (aborted orphans : Nat)
  | downstreamUp (credits : Nat)
  | upstreamReset (slots orphaned : Nat)
  | windowClosed (source : Fin 32) (refused : Nat)
  | contractApplied (source : Fin 32)
  | counterWrap (counter : CounterId)
  | overflow (lost : BitVec 32)
  deriving DecidableEq, Repr

/-- An event record: its sequence number, the time-base value of its event, and the event (R156). -/
structure EventRecord where
  seq   : BitVec 16
  time  : Time
  event : Event
  deriving DecidableEq, Repr

/-- The event queue, oldest record first, with its next sequence and lost count (R156, R161). -/
structure EventQueue where
  records : List EventRecord
  nextSeq : BitVec 16
  lost    : BitVec 32
  deriving DecidableEq, Repr

/-- The four settings of GLOBAL_WRITE (R177). Bit k of the mask enables the kind of code k, for the 13 maskable kinds. -/
structure GlobalSettings where
  policy          : Policy
  unmatchedAction : RegionAction
  unmatchedWeight : Weight
  mask            : BitVec 13
  deriving DecidableEq, Repr

/-! ### Trigger lines (chapter 5) -/

/-- Which settled changes of level are qualifying edges (R100). -/
inductive EdgeSetting where
  | rising
  | falling
  | both
  deriving DecidableEq, Repr

/-- A trigger line: settings, settled level and pending transition (R100), and the level of its pin. -/
structure Line where
  edge       : EdgeSetting
  filter     : Nat
  settled    : Level
  transition : Option (Level × Time)
  pin        : Level
  deriving DecidableEq, Repr

/-! ### Management port (chapter 10) -/

/-- The status byte of a response (R173). -/
inductive Status where
  | ok
  | staged
  | empty
  | badOpcode
  | badLength
  | badIndex
  | badValue
  | state
  deriving DecidableEq, Repr

/-- The response of the transaction under way (R169); the opcode is what RESPONSE_CUT records (R171). -/
structure Response where
  opcode : Byte
  status : Status
  data   : List Byte
  deriving DecidableEq, Repr

/-- The kind of the last frame fault (R172). -/
inductive FaultKind where
  | none
  | commandCut
  | responseCut
  deriving DecidableEq, Repr

/-- The last frame fault record (R172). -/
structure FrameFault where
  kind   : FaultKind
  opcode : Byte
  bytes  : Nat
  deriving DecidableEq, Repr

/-- The pins of the management port and what it has clocked in and out of the transaction under way (R168, R169). -/
structure Port where
  /-- The level of MCS_N. -/
  mcsN : Level
  /-- The level of MSCK. -/
  msck : Level
  /-- The level of MDI. -/
  mdi : Level
  /-- The bits of the byte that is not complete, first received first (R168, R170). -/
  bits : List Bool
  /-- The complete command bytes received, first received first; none once the command has been taken (R168, R170). -/
  bytes : List Byte
  /-- How often MSCK has risen since the take; absent before it (R169, R171). -/
  sent : Option Nat
  /-- The level the part drives on MDO, where it drives one (R168, R169). -/
  mdo : Level
  deriving DecidableEq, Repr

/-- A change of a pin that the management master drives (R168). -/
inductive PortEdge where
  | mcsN (level : Level)
  | msck (level : Level)
  | mdi (level : Level)
  deriving DecidableEq, Repr

/-! ### The whole part -/

/-- Reasons for the machine to stop with a fault. The spec gives no event of this part that stops it, so the type has no
constructor: no meaning can answer a fault, and none hides one. -/
inductive Fault where
  deriving DecidableEq, Repr

/-- Reasons for a command to be refused by the model. -/
inductive Refusal where
  /-- Raised by `exec`'s arm of a command that has no meaning yet, and by no meaning. Safe: the model stops. -/
  | notModelled (mnemonic : String)
  deriving DecidableEq, Repr

/-- The state of the part, plain data; INVENTORY.md lists each field with the rule that names it. -/
structure State where
  /-- The level of RESET_N. -/
  resetN : Level
  /-- The level of UP_RDY (R5). -/
  upRdy : Level
  /-- The level of the DN_RDY pin. -/
  dnRdyPin : Level
  /-- DN_RDY as the part treats it (R17). -/
  dnRdy : Level
  /-- The time base (R87). -/
  timeBase : Time
  /-- Tickets in use (R6). -/
  tickets : Nat
  /-- The Live Tag Map: membership of each tag 0..15 in each source's set (R11). -/
  liveTags : Vector (Vector Bool 16) 32
  /-- The Return Queue, head first (R12). -/
  returnQ : List Completion
  /-- The model's own: the completion last handed over on the U-port completion channel (log 8). -/
  ulCpl : Option Completion
  /-- The Region Table (R23). -/
  regions : Vector Region 16
  /-- Arbiter policy, unmatched settings and event mask (R177). -/
  globals : GlobalSettings
  /-- The Contract Table (R34) with the period timers (R89). -/
  contracts : Vector Contract 32
  /-- The hold lists, oldest first (R61). -/
  holds : Vector (List StoredReq) 32
  /-- The dispatch queues, oldest first (R107). -/
  queues : Vector (List StoredReq) 4
  /-- The settings and credits of the classes (R110, R111, R126, R148). -/
  classes : Vector ClassRec 4
  /-- The rotation pointer (R116). -/
  rotation : Fin 4
  /-- The model's own: the request last sent on the D-port request channel (log 8). -/
  dlReq : Option DRequest
  /-- The Outstanding Table (R124). -/
  entries : Vector Entry 64
  /-- The sources' counter groups (R143). -/
  srcCounts : Vector SourceCounts 32
  /-- The classes' counter groups (R145). -/
  clsCounts : Vector ClassCounts 4
  /-- The global counter group (R146). -/
  globCounts : GlobalCounts
  /-- The event queue (R156). -/
  evq : EventQueue
  /-- The trigger lines (R100). -/
  lines : Vector Line 4
  /-- The pins of the management port, and the transaction in progress on them (R168, R169). -/
  port : Port
  /-- The response of the last command taken, until its transaction ends or another one starts (R169, log 9). -/
  response : Option Response
  /-- Whether the MCS_N-low period in progress is the one that was so at the rise of RESET_N, and so is ignored (R174). -/
  portIgnore : Bool
  /-- The last frame fault (R172). -/
  frameFault : FrameFault
  /-- The commands that wait, first in, first out. -/
  pending : List Instr
  /-- The model's own: the pin changes that the management master is still to drive, next first (log 20). -/
  wire : List PortEdge
  /-- The model's own: what the free values are applied to, one more after each step that finds no command waiting (log 2). -/
  choices : Nat
  deriving DecidableEq, Repr

/-! ### Power-on values -/

/-- The power-on Region Table entry (R33). -/
def Region.powerOn : Region := ⟨false, 0, 0, .paced, .w1, BitVec.allOnes 32⟩

/-- The Default column of R34. -/
def Settings.powerOn : Settings where
  mode := .reload
  cls := 0
  budget := 256
  carry := 0
  tickBase := .t1
  periodCount := 1000
  triggerLine := 0
  edgesPerRefill := 1
  holdLimit := 8
  waitLimit := 0
  waitAction := .refuse

/-- The power-on contract (R58). -/
def Contract.powerOn : Contract := ⟨Settings.powerOn, .unpaced, 0, 0, none, .stopped⟩

/-- The power-on class (R123, R142, R154). -/
def ClassRec.powerOn : ClassRec := ⟨8, none, 0, 0, #v[4, 16, 64, 256, 1024, 4096, 16384]⟩

/-- The cleared counter group of a source (R153, R154). -/
def SourceCounts.cleared : SourceCounts := ⟨0, 0, 0, 0, 0, 0, 0, 0⟩

/-- The cleared counter group of a class: MIN_LATENCY 65535, every other member 0 (R149, R153, R154). -/
def ClassCounts.cleared : ClassCounts := ⟨0, Vector.replicate 8 0, 65535, 0, 0, 0, 0⟩

/-- The cleared global counter group (R153, R154). -/
def GlobalCounts.cleared : GlobalCounts := ⟨0, 0, 0⟩

/-- The power-on event queue (R167). -/
def EventQueue.powerOn : EventQueue := ⟨[], 0, 0⟩

/-- The power-on global settings (R177); 0x1FFE enables every kind but HOLD_START (R184). -/
def GlobalSettings.powerOn : GlobalSettings := ⟨.rotate, .paced, .w1, 0x1FFE#13⟩

/-- The power-on trigger line over a pin level: the settled level is the pin's at the rise of RESET_N (R100, R106). -/
def Line.powerOn (pin : Level) : Line := ⟨.rising, 0, pin, none, pin⟩

/-- No last frame fault (R172). -/
def FrameFault.none : FrameFault := ⟨.none, 0, 0⟩

/-- A port with no transaction in progress, over the levels its input pins have (R168, R170, R174). -/
def Port.cleared (p : Port) : Port := { p with bits := [], bytes := [], sent := none, mdo := .low }

/-- The Live Tag Map with every set empty (R21). -/
def noLiveTags : Vector (Vector Bool 16) 32 := Vector.replicate 32 (Vector.replicate 16 false)

/-- The part at the rise of RESET_N, given the levels of its input pins there; what waits to come from outside and the free values'
counter are the model's own and pass through (R21, R33, R58, R85, R99, R106, R123, R142, R154, R167, R172). An MCS_N-low period in
progress at the rise is ignored (R174). -/
def State.powerOn (upRdy dnRdyPin : Level) (trig : Vector Level 4) (port : Port) (pending : List Instr) (wire : List PortEdge)
    (choices : Nat) : State where
  resetN := .high
  upRdy := upRdy
  dnRdyPin := dnRdyPin
  dnRdy := .low
  timeBase := 0
  tickets := 0
  liveTags := noLiveTags
  returnQ := []
  ulCpl := none
  regions := Vector.replicate 16 Region.powerOn
  globals := GlobalSettings.powerOn
  contracts := Vector.replicate 32 Contract.powerOn
  holds := Vector.replicate 32 []
  queues := Vector.replicate 4 []
  classes := Vector.replicate 4 ClassRec.powerOn
  rotation := 0
  dlReq := none
  entries := Vector.replicate 64 .free
  srcCounts := Vector.replicate 32 SourceCounts.cleared
  clsCounts := Vector.replicate 4 ClassCounts.cleared
  globCounts := GlobalCounts.cleared
  evq := EventQueue.powerOn
  lines := trig.map Line.powerOn
  port := port.cleared
  response := none
  portIgnore := port.mcsN = .low
  frameFault := FrameFault.none
  pending := pending
  wire := wire
  choices := choices

/-- The port with no chip select: MCS_N high, MSCK idling low (R168), MDI low. -/
def Port.idle : Port := ⟨.high, .low, .low, [], [], none, .low⟩

/-- The machine right after reset: every field at its power-on value. The input pins UP_RDY, DN_RDY, TRIG0..TRIG3 and MDI are low
and MCS_N is high (DESIGN CHOICE, log 4: the spec gives no level of an input pin at the rise of RESET_N); MSCK idles low (R168). -/
def State.reset : State := State.powerOn .low .low (Vector.replicate 4 .low) Port.idle [] [] 0

end Sys2Proof.Machine
end

