-- ==== Sys2Proof/Machine/Operands.lean ====
section
/-! DEFINITION. Operand forms: how state is named by a source, class, entry, line or region index; the coding of every
enumerated field (R184); the fields of each write command's payload with their range checks; and the bytes of each response
(R175, R176, R184, R185). -/

namespace Sys2Proof.Machine

/-! ### Naming state by index -/

/-- The contract of a source (R34). -/
def State.contract (s : State) (src : Fin 32) : Contract := s.contracts[src]

/-- The hold list of a source, head first (R61). -/
def State.hold (s : State) (src : Fin 32) : List StoredReq := s.holds[src]

/-- The dispatch queue of a class, head first (R107). -/
def State.queue (s : State) (c : Fin 4) : List StoredReq := s.queues[c]

/-- The settings and credits of a class. -/
def State.cls (s : State) (c : Fin 4) : ClassRec := s.classes[c]

/-- An Outstanding Table entry, named by its downstream tag (R124, R125). -/
def State.entry (s : State) (d : Fin 64) : Entry := s.entries[d]

/-- The counter group of a source. -/
def State.srcCount (s : State) (src : Fin 32) : SourceCounts := s.srcCounts[src]

/-- The counter group of a class. -/
def State.clsCount (s : State) (c : Fin 4) : ClassCounts := s.clsCounts[c]

/-- A trigger line. -/
def State.line (s : State) (n : Fin 4) : Line := s.lines[n]

/-- A Region Table entry. -/
def State.region (s : State) (i : Fin 16) : Region := s.regions[i]

/-- Whether a (source, tag) pair is in the Live Tag Map (R11). -/
def State.live (s : State) (src : Fin 32) (tag : Fin 16) : Bool := s.liveTags[src][tag]

/-! ### Tags -/

/-- A live tag 0..15 as the 6-bit tag of the wire. -/
def wireTag (tag : Fin 16) : Fin 64 := tag.castLE (by decide)

/-- A 6-bit tag as a live tag, when it is 0..15 (R7). -/
def liveTag? (tag : Fin 64) : Option (Fin 16) :=
  if h : tag.val < 16 then some ⟨tag.val, h⟩ else none

/-! ### Index bytes -/

/-- An index byte as an index below `n`, when it is in range. -/
def indexBelow (n : Nat) (v : Nat) : Option (Fin n) := if h : v < n then some ⟨v, h⟩ else none

/-! ### Bytes of a response, most significant byte first -/

/-- The low byte of a number. -/
def byteOf (v : Nat) : Byte := BitVec.ofNat 8 v

/-- A two-byte field. -/
def bytes2 (v : Nat) : List Byte := [byteOf (v / 256), byteOf v]

/-- A four-byte field. -/
def bytes4 (v : Nat) : List Byte := [byteOf (v / 16777216), byteOf (v / 65536), byteOf (v / 256), byteOf v]

/-- A yes or no as a byte, 1 or 0. -/
def boolByte (b : Bool) : Byte := if b then 1#8 else 0#8

/-! ### Enumerated fields (R184) -/

def Mode.code : Mode → Nat
  | .reload => 0
  | .oneShot => 1
  | .triggered => 2

def Mode.ofCode : Nat → Option Mode
  | 0 => some .reload
  | 1 => some .oneShot
  | 2 => some .triggered
  | _ => none

def TickBase.code : TickBase → Nat
  | .t0 => 0
  | .t1 => 1
  | .t2 => 2
  | .t3 => 3

def TickBase.ofCode : Nat → Option TickBase
  | 0 => some .t0
  | 1 => some .t1
  | 2 => some .t2
  | 3 => some .t3
  | _ => none

def WaitAction.code : WaitAction → Nat
  | .refuse => 0
  | .force => 1

def WaitAction.ofCode : Nat → Option WaitAction
  | 0 => some .refuse
  | 1 => some .force
  | _ => none

def SourceState.code : SourceState → Nat
  | .unpaced => 0
  | .paced => 1
  | .spent => 2
  | .barred => 3

def RegionAction.code : RegionAction → Nat
  | .paced => 0
  | .free => 1
  | .blocked => 2

def RegionAction.ofCode : Nat → Option RegionAction
  | 0 => some .paced
  | 1 => some .free
  | 2 => some .blocked
  | _ => none

/-- The multiplier a weight stands for; it is also its coding (R184). -/
def Weight.beats : Weight → Nat
  | .w1 => 1
  | .w2 => 2
  | .w4 => 4

def Weight.ofCode : Nat → Option Weight
  | 1 => some .w1
  | 2 => some .w2
  | 4 => some .w4
  | _ => none

def EdgeSetting.code : EdgeSetting → Nat
  | .rising => 0
  | .falling => 1
  | .both => 2

def EdgeSetting.ofCode : Nat → Option EdgeSetting
  | 0 => some .rising
  | 1 => some .falling
  | 2 => some .both
  | _ => none

def Policy.code : Policy → Nat
  | .rotate => 0
  | .strict => 1

def Policy.ofCode : Nat → Option Policy
  | 0 => some .rotate
  | 1 => some .strict
  | _ => none

def validOfCode : Nat → Option Bool
  | 0 => some false
  | 1 => some true
  | _ => none

def levelCode : Level → Nat
  | .low => 0
  | .high => 1

def FaultKind.code : FaultKind → Nat
  | .none => 0
  | .commandCut => 1
  | .responseCut => 2

/-- The status codes of R182. -/
def Status.code : Status → Byte
  | .ok => 0x00#8
  | .staged => 0x01#8
  | .empty => 0x02#8
  | .badOpcode => 0x10#8
  | .badLength => 0x11#8
  | .badIndex => 0x12#8
  | .badValue => 0x13#8
  | .state => 0x14#8

/-- The T0 ticks in one tick of a base (R88). -/
def TickBase.ticks : TickBase → Nat
  | .t0 => 1
  | .t1 => 4
  | .t2 => 16
  | .t3 => 64

/-! ### Contract settings -/

/-- Budget plus carry (R35). -/
def Settings.ceiling (x : Settings) : Nat := x.budget + x.carry

/-- The length of a period or window in T0 ticks (R88, R89). -/
def Settings.periodTicks (x : Settings) : Nat := x.periodCount * x.tickBase.ticks

/-- The wait limit in T0 ticks (R73). -/
def Settings.waitTicks (x : Settings) : Nat := 4 * x.waitLimit

/-- The settings of a CONTRACT_WRITE payload, when every field is in its range (R47 step 3, R184). -/
def Settings.ofFrame (f : Frame) : Option Settings :=
  match Mode.ofCode (f.u8 0), indexBelow 4 (f.u8 1), TickBase.ofCode (f.u8 6), indexBelow 4 (f.u8 9),
      WaitAction.ofCode (f.u8 15) with
  | some mode, some cls, some tickBase, some triggerLine, some waitAction =>
    if 1 ≤ f.u16 2 ∧ 1 ≤ f.u16 7 ∧ f.u16 7 ≤ 4096 ∧ 1 ≤ f.u16 10 ∧ f.u16 10 ≤ 256 ∧ f.u8 12 ≤ 32 then
      some { mode := mode, cls := cls, budget := f.u16 2, carry := f.u16 4, tickBase := tickBase,
             periodCount := f.u16 7, triggerLine := triggerLine, edgesPerRefill := f.u16 10,
             holdLimit := f.u8 12, waitLimit := f.u16 13, waitAction := waitAction }
    else none
  | _, _, _, _, _ => none

/-- The 16 bytes of a contract's settings, in CONTRACT_WRITE's layout (R184). -/
def Settings.bytes (x : Settings) : List Byte :=
  [byteOf x.mode.code, byteOf x.cls.val] ++ bytes2 x.budget ++ bytes2 x.carry ++ [byteOf x.tickBase.code]
    ++ bytes2 x.periodCount ++ [byteOf x.triggerLine.val] ++ bytes2 x.edgesPerRefill ++ [byteOf x.holdLimit]
    ++ bytes2 x.waitLimit ++ [byteOf x.waitAction.code]

/-- CONTRACT_READ's 21 bytes: settings, state, balance, edge count, staged copy pending (R52, R184). -/
def Contract.bytes (c : Contract) : List Byte :=
  c.settings.bytes ++ [byteOf c.state.code] ++ bytes2 c.balance ++ [byteOf c.edgeCount, boolByte c.staged.isSome]

/-! ### Regions -/

/-- The fields of a REGION_WRITE payload, when every field is in its range (R29 step 3, R184). -/
def Region.ofFrame (f : Frame) : Option Region :=
  match validOfCode (f.u8 0), RegionAction.ofCode (f.u8 9), Weight.ofCode (f.u8 10) with
  | some valid, some action, some weight =>
    if f.u32 1 < 2 ^ 28 ∧ f.u32 5 < 2 ^ 28 then
      some { valid := valid, base := f.u32 1, limit := f.u32 5, action := action, weight := weight,
             mask := BitVec.ofNat 32 (f.u32 11) }
    else none
  | _, _, _ => none

/-- REGION_READ's 15 bytes (R30, R184). -/
def Region.bytes (r : Region) : List Byte :=
  [boolByte r.valid] ++ bytes4 r.base ++ bytes4 r.limit ++ [byteOf r.action.code, byteOf r.weight.beats]
    ++ bytes4 r.mask.toNat

/-! ### Classes -/

/-- The default credit, the response limit and the seven edges of a CLASS_WRITE payload (R184). -/
def classCredit (f : Frame) : Nat := f.u8 0

def classLimit (f : Frame) : Nat := f.u16 1

def classEdges (f : Frame) : Vector Nat 7 := Vector.ofFn fun i => f.u16 (3 + 2 * i.val)

/-- Legal bin edges: no edge is 0 and the seven are strictly ascending (R121 step 4, R148). -/
def edgesLegal (e : Vector Nat 7) : Bool :=
  0 < e[0] && (List.finRange 6).all fun i => e[i.castSucc] < e[i.succ]

/-- CLASS_READ's 21 bytes (R122, R184). -/
def ClassRec.bytes (c : ClassRec) (queueLength : Nat) : List Byte :=
  [byteOf c.defaultCredit, boolByte c.stagedCredit.isSome, byteOf (c.stagedCredit.getD 0), byteOf c.credits,
    byteOf queueLength] ++ bytes2 c.responseLimit ++ c.edges.toList.flatMap bytes2

/-! ### Lines and global settings -/

/-- The settings of a LINE_WRITE payload, when both are in range (R105 step 3, R184). -/
def lineOfFrame (f : Frame) : Option (EdgeSetting × Nat) :=
  match EdgeSetting.ofCode (f.u8 0) with
  | some edge => if f.u8 1 ≤ 15 then some (edge, f.u8 1) else none
  | none => none

/-- LINE_READ's 4 bytes (R105, R184). -/
def Line.bytes (l : Line) : List Byte :=
  [byteOf l.edge.code, byteOf l.filter, byteOf (levelCode l.settled), boolByte l.transition.isSome]

/-- The settings of a GLOBAL_WRITE payload, when every field is in range; mask bits 13..15 must be 0 (R177, R184). -/
def GlobalSettings.ofFrame (f : Frame) : Option GlobalSettings :=
  match Policy.ofCode (f.u8 0), RegionAction.ofCode (f.u8 1), Weight.ofCode (f.u8 2) with
  | some policy, some action, some weight =>
    if f.u16 3 < 2 ^ 13 then some ⟨policy, action, weight, BitVec.ofNat 13 (f.u16 3)⟩ else none
  | _, _, _ => none

/-- GLOBAL_READ's 5 bytes (R177, R184). -/
def GlobalSettings.bytes (g : GlobalSettings) : List Byte :=
  [byteOf g.policy.code, byteOf g.unmatchedAction.code, byteOf g.unmatchedWeight.beats] ++ bytes2 g.mask.toNat

/-! ### Counter groups -/

/-- The counter group a COUNTERS_READ names (R152). -/
inductive Group where
  | source (s : Fin 32)
  | cls (c : Fin 4)
  | global
  deriving DecidableEq, Repr

/-- The bytes of a 32-bit counter. -/
def counterBytes (c : Counter) : List Byte := bytes4 c.toNat

/-- A source group's 29 bytes (R184). -/
def SourceCounts.bytes (c : SourceCounts) : List Byte :=
  counterBytes c.arrivals ++ counterBytes c.chargedBeats ++ counterBytes c.freeBeats ++ counterBytes c.forcedBeats
    ++ counterBytes c.heldCount ++ counterBytes c.refusedCount ++ [byteOf c.maxHoldDepth] ++ counterBytes c.maxResidence

/-- A class group's 52 bytes (R184). -/
def ClassCounts.bytes (c : ClassCounts) : List Byte :=
  counterBytes c.completions ++ c.bins.toList.flatMap counterBytes ++ bytes2 c.minLatency ++ bytes2 c.maxLatency
    ++ counterBytes c.timeouts ++ counterBytes c.late ++ counterBytes c.memErrors

/-- The global group's 12 bytes (R184). -/
def GlobalCounts.bytes (c : GlobalCounts) : List Byte :=
  counterBytes c.stray ++ counterBytes c.duplicates ++ counterBytes c.malformed

/-! ### Event records (R185) -/

/-- The kind codes of R185. -/
def Event.kindCode : Event → Nat
  | .holdStart _ _ => 0
  | .waitExpired _ _ _ => 1
  | .refusal _ _ _ => 2
  | .duplicateTag _ _ => 3
  | .responseTimeout _ _ _ _ => 4
  | .lateCompletion _ _ _ => 5
  | .strayCompletion _ => 6
  | .downstreamDown _ _ => 7
  | .downstreamUp _ => 8
  | .upstreamReset _ _ => 9
  | .windowClosed _ _ => 10
  | .contractApplied _ => 11
  | .counterWrap _ => 12
  | .overflow _ => 13

/-- The counter identities of COUNTER_WRAP (R185). -/
def CounterId.code : CounterId → Nat
  | .source _ .arrivals => 0
  | .source _ .chargedBeats => 1
  | .source _ .freeBeats => 2
  | .source _ .forcedBeats => 3
  | .source _ .heldCount => 4
  | .source _ .refusedCount => 5
  | .cls _ .completions => 6
  | .cls _ (.bin b) => 7 + b.val
  | .cls _ .timeouts => 15
  | .cls _ .late => 16
  | .cls _ .memErrors => 17
  | .global .stray => 18
  | .global .duplicates => 19
  | .global .malformed => 20

/-- The source field of a record, absent by kind (R158, R159). -/
def Event.source? : Event → Option (Fin 32)
  | .holdStart s _ => some s
  | .waitExpired s _ _ => some s
  | .refusal s _ _ => some s
  | .duplicateTag s _ => some s
  | .responseTimeout s _ _ _ => some s
  | .lateCompletion s _ _ => some s
  | .strayCompletion _ => none
  | .downstreamDown _ _ => none
  | .downstreamUp _ => none
  | .upstreamReset _ _ => none
  | .windowClosed s _ => some s
  | .contractApplied s => some s
  | .counterWrap (.source s _) => some s
  | .counterWrap (.cls _ _) => none
  | .counterWrap (.global _) => none
  | .overflow _ => none

/-- The class field of a record, absent by kind (R158, R159). -/
def Event.class? : Event → Option (Fin 4)
  | .responseTimeout _ c _ _ => some c
  | .lateCompletion _ c _ => some c
  | .counterWrap (.cls c _) => some c
  | .holdStart _ _ => none
  | .waitExpired _ _ _ => none
  | .refusal _ _ _ => none
  | .duplicateTag _ _ => none
  | .strayCompletion _ => none
  | .downstreamDown _ _ => none
  | .downstreamUp _ => none
  | .upstreamReset _ _ => none
  | .windowClosed _ _ => none
  | .contractApplied _ => none
  | .counterWrap (.source _ _) => none
  | .counterWrap (.global _) => none
  | .overflow _ => none

/-- The 32-bit detail of a record (R159, R185). -/
def Event.detail : Event → BitVec 32
  | .holdStart _ tag => BitVec.ofNat 32 tag.val
  | .waitExpired _ tag action => BitVec.ofNat 32 (tag.val + 2 ^ 8 * action.code)
  | .refusal _ tag reason => BitVec.ofNat 32 (tag.val + 2 ^ 8 * reason.code)
  | .duplicateTag _ tag => BitVec.ofNat 32 tag.val
  | .responseTimeout _ _ tag dtag => BitVec.ofNat 32 (tag.val + 2 ^ 8 * dtag.val)
  | .lateCompletion _ _ dtag => BitVec.ofNat 32 (2 ^ 8 * dtag.val)
  | .strayCompletion dtag => BitVec.ofNat 32 (2 ^ 8 * dtag.val)
  | .downstreamDown aborted orphans => BitVec.ofNat 32 (aborted + 2 ^ 16 * orphans)
  | .downstreamUp credits => BitVec.ofNat 32 credits
  | .upstreamReset slots orphaned => BitVec.ofNat 32 (slots + 2 ^ 16 * orphaned)
  | .windowClosed _ refused => BitVec.ofNat 32 refused
  | .contractApplied _ => 0
  | .counterWrap counter => BitVec.ofNat 32 counter.code
  | .overflow lost => lost

/-- The presence byte of a record: bit 0 source present, bit 1 class present (R185). -/
def Event.presence (e : Event) : Byte :=
  byteOf ((if e.source?.isSome then 1 else 0) + (if e.class?.isSome then 2 else 0))

/-- EVENT_READ's 15 bytes: the head record and the record count (R163, R185). -/
def EventRecord.bytes (r : EventRecord) (count : Nat) : List Byte :=
  bytes2 r.seq.toNat ++ [byteOf r.event.kindCode] ++ bytes4 r.time.toNat ++ [r.event.presence]
    ++ [byteOf ((r.event.source?.map Fin.val).getD 0), byteOf ((r.event.class?.map Fin.val).getD 0)]
    ++ bytes4 r.event.detail.toNat ++ [byteOf count]

/-- IDENTIFY's 14 bytes (R175, R184). -/
def identifyBytes : List Byte :=
  bytes2 Config.vendorCode ++ bytes2 Config.partCode
    ++ [byteOf Config.revision, byteOf 32, byteOf 4, byteOf 16, byteOf 4, byteOf 96, byteOf 64,
      byteOf Config.eventCapacity, byteOf Config.ticketPool, byteOf Config.maxPayload]

end Sys2Proof.Machine
end

