-- ==== Sys2Proof/Machine/Flags.lean ====
section
/-! DEFINITION. What is computed from the state and not stored: counts, slot states, pin and channel views (ALERT_N, MDO, the
offered completion), the ready byte, eligibility and the arbiter's choice, and the conditions under which an event of the
part falls due. -/

namespace Sys2Proof.Machine

/-- The sum of `f` over the indexes below `n`. -/
def sumFin (n : Nat) (f : Fin n → Nat) : Nat := ((List.finRange n).map f).sum

/-- How many indexes below `n` meet `p`. -/
def countFin (n : Nat) (p : Fin n → Bool) : Nat := sumFin n fun i => if p i then 1 else 0

/-! ### Times -/

/-- T0 ticks since `t`, modulo 2^32 (00, Units and time). -/
def State.elapsed (s : State) (t : Time) : Nat := (s.timeBase - t).toNat

/-! ### Request Store -/

/-- Store occupancy: the number of slots that are not FREE (R59). -/
def State.occupancy (s : State) : Nat :=
  (sumFin 32 fun src => (s.hold src).length) + (sumFin 4 fun c => (s.queue c).length)

/-- Whether a slot is HELD: its record stands in a hold list (R60). -/
def State.slotHeld (s : State) (i : Fin 96) : Bool :=
  (List.finRange 32).any fun src => (s.hold src).any fun r => r.slot = i

/-- Whether a slot is QUEUED: its record stands in a dispatch queue (R60). -/
def State.slotQueued (s : State) (i : Fin 96) : Bool :=
  (List.finRange 4).any fun c => (s.queue c).any fun r => r.slot = i

/-- The state of a Request Store slot (R59, R60). -/
def State.slotState (s : State) (i : Fin 96) : SlotState :=
  if s.slotHeld i then .held else if s.slotQueued i then .queued else .free

/-- The lowest-index FREE slot, if one is FREE (R59). -/
def State.freeSlot (s : State) : Option (Fin 96) := (List.finRange 96).find? fun i => s.slotState i = .free

/-- Whether any Request Store slot belongs to the source (R48). -/
def State.storesOf (s : State) (src : Fin 32) : Bool :=
  ((List.finRange 32).any fun i => (s.hold i).any fun r => r.source = src)
    || ((List.finRange 4).any fun c => (s.queue c).any fun r => r.source = src)

/-! ### Outstanding Table -/

def Entry.isFree : Entry → Bool
  | .free => true
  | .active _ => false
  | .orphaned _ => false

def Entry.isActive : Entry → Bool
  | .free => false
  | .active _ => true
  | .orphaned _ => false

def Entry.isOrphaned : Entry → Bool
  | .free => false
  | .active _ => false
  | .orphaned _ => true

/-- Whether an entry is ACTIVE or ORPHANED in class `c`, and so holds one of its credits (R110, R141). -/
def Entry.holdsCredit (c : Fin 4) : Entry → Bool
  | .free => false
  | .active r => r.cls = c
  | .orphaned r => r.cls = c

/-- The number of ACTIVE entries (R124). -/
def State.activeCount (s : State) : Nat := countFin 64 fun d => (s.entry d).isActive

/-- The number of ORPHANED entries (R124). -/
def State.orphanCount (s : State) : Nat := countFin 64 fun d => (s.entry d).isOrphaned

/-- The ACTIVE and ORPHANED entries of a class (R110). -/
def State.classEntries (s : State) (c : Fin 4) : Nat := countFin 64 fun d => (s.entry d).holdsCredit c

/-- The lowest-index FREE entry, if one is FREE (R118). -/
def State.freeEntry (s : State) : Option (Fin 64) := (List.finRange 64).find? fun d => (s.entry d).isFree

/-! ### Pins and channels -/

/-- ALERT_N: low while the queue holds a record, released (high, by the board's pull-up) while it is empty and while RESET_N
is low (R166). -/
def State.alertN (s : State) : Level :=
  if s.resetN = .high ∧ s.evq.records ≠ [] then .low else .high

/-- The completion the U-port offers: the head of the Return Queue while RESET_N and UP_RDY are both high (R13). -/
def State.offered (s : State) : Option Completion :=
  if s.resetN = .high ∧ s.upRdy = .high then s.returnQ.head? else none

/-- Whether the management port takes commands: RESET_N is high, and the MCS_N-low period in progress is not the one that was so at
the rise of RESET_N (R174). -/
abbrev State.listening (s : State) : Prop := s.resetN = .high ∧ s.portIgnore = false

/-- The bytes driven on MDO for the transaction under way: status, M, and the M response bytes (R169). -/
def State.mdoBytes (s : State) : List Byte :=
  match s.response with
  | none => []
  | some r => r.status.code :: byteOf r.data.length :: r.data

/-- The byte driven on MDO at position `k` after the take: the response's byte, and 0x00 once it has been clocked out (R169). -/
def State.mdoAt (s : State) (k : Nat) : Byte := s.mdoBytes.getD k 0x00#8

/-- The level driven on MDO after `sent` rises of MSCK since the take, most significant bit first; low, for 0x00, while command bytes
are clocked in (R168, R169). -/
def State.mdoBit (s : State) : Option Nat → Level
  | none => .low
  | some n => if (s.mdoAt (n / 8)).getMsbD (n % 8) then .high else .low

/-- The level at MDO: none, for high impedance, while MCS_N is high and while RESET_N is low (R169); in a period that the port ignores
the free value `Config.ignoredMdo` (log 21). -/
def State.mdo (s : State) : Option Level :=
  if s.resetN = .low ∨ s.port.mcsN = .high then none
  else some (if s.portIgnore then Config.ignoredMdo s.choices else s.port.mdo)

/-- The ready levels byte of STATUS: bit 0 UP_RDY, bit 1 DN_RDY as treated (R184). -/
def State.readyByte (s : State) : Byte := byteOf (levelCode s.upRdy + 2 * levelCode s.dnRdy)

/-- STATUS's 18 bytes (R176, R184). -/
def State.statusBytes (s : State) : List Byte :=
  [s.readyByte, byteOf s.tickets, byteOf s.occupancy, byteOf s.activeCount, byteOf s.orphanCount,
    byteOf s.returnQ.length, byteOf (s.cls 0).credits, byteOf (s.cls 1).credits, byteOf (s.cls 2).credits,
    byteOf (s.cls 3).credits, byteOf s.evq.records.length]
    ++ bytes4 s.evq.lost.toNat ++ [byteOf s.frameFault.kind.code, s.frameFault.opcode, byteOf s.frameFault.bytes]

/-! ### The arbiter -/

/-- Whether a class is eligible (R114). -/
def State.eligible (s : State) (c : Fin 4) : Bool :=
  !(s.queue c).isEmpty && 1 ≤ (s.cls c).credits && s.freeEntry.isSome && s.dnRdy = .high && s.resetN = .high

/-- The order in which the arbiter looks at the classes: from the rotation pointer upward under ROTATE, from class 0 upward
under STRICT (R116, R117). -/
def State.arbiterOrder (s : State) : List (Fin 4) :=
  match s.globals.policy with
  | .rotate => [s.rotation, s.rotation + 1, s.rotation + 2, s.rotation + 3]
  | .strict => [0, 1, 2, 3]

/-- The class the arbiter grants: the first eligible one in its order (R115, R116, R117). -/
def State.winner (s : State) : Option (Fin 4) := s.arbiterOrder.find? fun c => s.eligible c

/-! ### What falls due -/

/-- Whether a RELOAD period has reached its due time (R92): RUNNING, measure PERIOD, and as many ticks elapsed as its
length (log 13). -/
def State.boundaryDue (s : State) (src : Fin 32) : Bool :=
  match (s.contract src).timer with
  | .running .period start length => length ≤ s.elapsed start
  | .running .window _ _ => false
  | .stopped => false

/-- Whether a ONE_SHOT window has reached its due time (R96, log 13). -/
def State.windowDue (s : State) (src : Fin 32) : Bool :=
  match (s.contract src).timer with
  | .running .window start length => length ≤ s.elapsed start
  | .running .period _ _ => false
  | .stopped => false

/-- Whether a held request, standing at the head, has reached its source's wait limit (R73). -/
def State.reachedLimit (s : State) (src : Fin 32) (r : StoredReq) : Bool :=
  (s.contract src).state = .paced && (s.contract src).settings.waitLimit ≠ 0
    && (s.contract src).settings.waitTicks ≤ s.elapsed r.arrival

/-- Whether the head of a source's hold list expires (R73). -/
def State.headDue (s : State) (src : Fin 32) : Bool :=
  match s.hold src with
  | [] => false
  | r :: _ => s.reachedLimit src r

/-- Whether an ACTIVE entry has reached its response due time (R126): as many ticks elapsed since its dispatch as lie between
dispatch and due time (log 13). -/
def State.responseDue (s : State) (d : Fin 64) : Bool :=
  match s.entry d with
  | .active r =>
    match r.due with
    | some due => (due - r.dispatch).toNat ≤ s.elapsed r.dispatch
    | none => false
  | .free => false
  | .orphaned _ => false

/-- Whether a line's pending transition has reached its due time (R100, R101). -/
def State.transitionDue (s : State) (n : Fin 4) : Bool :=
  match (s.line n).transition with
  | some (_, seen) => 4 * (s.line n).filter ≤ s.elapsed seen
  | none => false

/-- Whether DN_RDY is high at the pin and the part has not yet seen it (R17). -/
def State.firstSightDue (s : State) : Bool := s.dnRdyPin = .high && s.dnRdy = .low

/-- The events of the part itself that are due now, while RESET_N is high: the first sight of DN_RDY, the arbiter's grant,
boundaries, window ends, head expiries, response timeouts and settlings (R17, R115, R92, R96, R73, R134, R101). -/
def State.dueEvents (s : State) : List Instr :=
  if s.resetN = .low then []
  else
    (if s.firstSightDue then [Instr.downstreamUp] else [])
      ++ (if s.winner.isSome then [Instr.grant] else [])
      ++ ((List.finRange 32).filter s.boundaryDue).map Instr.boundary
      ++ ((List.finRange 32).filter s.windowDue).map Instr.windowEnd
      ++ ((List.finRange 32).filter s.headDue).map Instr.headExpiry
      ++ ((List.finRange 64).filter s.responseDue).map Instr.responseTimeout
      ++ ((List.finRange 4).filter s.transitionDue).map Instr.transitionSettles

end Sys2Proof.Machine
end

