-- ==== Sys2Proof/Machine/Ops.lean ====
section
/-! DEFINITION. The named operations over the tables, queues, counters and records that several events share: writing one item,
raising an event, counting, forming completions, staged copies, queueing, the drain and the head check, timers, boundaries,
window ends and qualifying edges, the region decision, and the frame of a management command. -/

namespace Sys2Proof.Machine

/-! ### Writing one item -/

def State.setContract (s : State) (src : Fin 32) (c : Contract) : State :=
  { s with contracts := s.contracts.set src c }

def State.setHold (s : State) (src : Fin 32) (l : List StoredReq) : State :=
  { s with holds := s.holds.set src l }

def State.setQueue (s : State) (c : Fin 4) (l : List StoredReq) : State :=
  { s with queues := s.queues.set c l }

def State.setClass (s : State) (c : Fin 4) (r : ClassRec) : State :=
  { s with classes := s.classes.set c r }

def State.setEntry (s : State) (d : Fin 64) (e : Entry) : State :=
  { s with entries := s.entries.set d e }

def State.setSrcCount (s : State) (src : Fin 32) (c : SourceCounts) : State :=
  { s with srcCounts := s.srcCounts.set src c }

def State.setClsCount (s : State) (c : Fin 4) (k : ClassCounts) : State :=
  { s with clsCounts := s.clsCounts.set c k }

def State.setLine (s : State) (n : Fin 4) (l : Line) : State :=
  { s with lines := s.lines.set n l }

def State.setRegion (s : State) (i : Fin 16) (r : Region) : State :=
  { s with regions := s.regions.set i r }

/-- Puts a pair into the Live Tag Map or takes it out (R11). -/
def State.setLive (s : State) (src : Fin 32) (tag : Fin 16) (b : Bool) : State :=
  { s with liveTags := s.liveTags.set src (s.liveTags[src].set tag b) }

/-! ### Events and counters -/

/-- Whether an event is recorded: OVERFLOW always, the other kinds by their enable (R160). -/
def State.enabled (s : State) (e : Event) : Bool := e.kindCode = 13 || s.globals.mask.getLsbD e.kindCode

/-- A record joins the tail with the next sequence (R156, R161). -/
def EventQueue.join (q : EventQueue) (time : Time) (e : Event) : EventQueue :=
  { q with records := q.records ++ [⟨q.nextSeq, time, e⟩], nextSeq := q.nextSeq + 1 }

/-- A record offered to the queue joins it, or is lost and counted, saturating, when the queue is full (R161). -/
def EventQueue.offer (q : EventQueue) (time : Time) (e : Event) : EventQueue :=
  if q.records.length < Config.eventCapacity then q.join time e
  else if q.lost = BitVec.allOnes 32 then q
  else { q with lost := q.lost + 1 }

/-- An event is raised: a record with the time base now is offered to the queue when its kind is enabled (R157, R160). -/
def State.raise (s : State) (e : Event) : State :=
  if s.enabled e then { s with evq := s.evq.offer s.timeBase e } else s

/-- Whether adding `k` carries a 32-bit counter past 2^32 − 1 (R147). -/
def wraps (v : Counter) (k : Nat) : Bool := 2 ^ 32 ≤ v.toNat + k

def SourceCounts.get (c : SourceCounts) : SourceCounter → Counter
  | .arrivals => c.arrivals
  | .chargedBeats => c.chargedBeats
  | .freeBeats => c.freeBeats
  | .forcedBeats => c.forcedBeats
  | .heldCount => c.heldCount
  | .refusedCount => c.refusedCount

def SourceCounts.put (c : SourceCounts) (k : SourceCounter) (v : Counter) : SourceCounts :=
  match k with
  | .arrivals => { c with arrivals := v }
  | .chargedBeats => { c with chargedBeats := v }
  | .freeBeats => { c with freeBeats := v }
  | .forcedBeats => { c with forcedBeats := v }
  | .heldCount => { c with heldCount := v }
  | .refusedCount => { c with refusedCount := v }

def ClassCounts.get (c : ClassCounts) : ClassCounter → Counter
  | .completions => c.completions
  | .bin b => c.bins[b]
  | .timeouts => c.timeouts
  | .late => c.late
  | .memErrors => c.memErrors

def ClassCounts.put (c : ClassCounts) (k : ClassCounter) (v : Counter) : ClassCounts :=
  match k with
  | .completions => { c with completions := v }
  | .bin b => { c with bins := c.bins.set b v }
  | .timeouts => { c with timeouts := v }
  | .late => { c with late := v }
  | .memErrors => { c with memErrors := v }

def GlobalCounts.get (c : GlobalCounts) : GlobalCounter → Counter
  | .stray => c.stray
  | .duplicates => c.duplicates
  | .malformed => c.malformed

def GlobalCounts.put (c : GlobalCounts) (k : GlobalCounter) (v : Counter) : GlobalCounts :=
  match k with
  | .stray => { c with stray := v }
  | .duplicates => { c with duplicates := v }
  | .malformed => { c with malformed := v }

/-- COUNTER_WRAP, raised when the increment wrapped (R147). -/
def State.raiseWrap (s : State) (id : CounterId) (wrapped : Bool) : State :=
  if wrapped then s.raise (.counterWrap id) else s

/-- Adds `n` to a source's counter; a wrap raises COUNTER_WRAP at once (R143, R147). -/
def State.countSource (s : State) (src : Fin 32) (k : SourceCounter) (n : Nat) : State :=
  (s.setSrcCount src ((s.srcCount src).put k ((s.srcCount src).get k + BitVec.ofNat 32 n))).raiseWrap (.source src k)
    (wraps ((s.srcCount src).get k) n)

/-- Adds 1 to a class's counter (R145, R147). -/
def State.countClass (s : State) (c : Fin 4) (k : ClassCounter) : State :=
  (s.setClsCount c ((s.clsCount c).put k ((s.clsCount c).get k + 1))).raiseWrap (.cls c k) (wraps ((s.clsCount c).get k) 1)

/-- Adds 1 to a global counter (R146, R147). -/
def State.countGlobal (s : State) (k : GlobalCounter) : State :=
  ({ s with globCounts := s.globCounts.put k (s.globCounts.get k + 1) }).raiseWrap (.global k)
    (wraps (s.globCounts.get k) 1)

/-! ### Completions and refusals -/

/-- A completion joins the tail of the Return Queue; the ticket it brings stays in use (R12). -/
def State.joinReturn (s : State) (c : Completion) : State := { s with returnQ := s.returnQ ++ [c] }

/-- A completion without data. -/
def bareCompletion (src : Fin 32) (tag : Fin 64) (status : CplStatus) : Completion := ⟨src, tag, status, []⟩

/-- A refusal by the Admission Unit: completion, REFUSED_COUNT, REFUSAL (R63 for an arrival, R79 for a stored request). -/
def State.refuse (s : State) (src : Fin 32) (tag : Fin 16) (reason : Reason) : State :=
  ((s.joinReturn (bareCompletion src (wireTag tag) (.refused reason))).countSource src .refusedCount 1).raise
    (.refusal src (wireTag tag) reason)

/-- Refuses stored requests that have left their list, in order (R79). -/
def State.refuseList (s : State) (reason : Reason) : List StoredReq → State
  | [] => s
  | r :: rest => (s.refuse r.source r.tag reason).refuseList reason rest

/-- Answers stored requests that have left their list ABORTED, in order: no count and no event (R83). -/
def State.abortList (s : State) (l : List StoredReq) : State :=
  { s with returnQ := s.returnQ ++ l.map fun r => bareCompletion r.source (wireTag r.tag) .aborted }

/-! ### Contracts -/

/-- Applies the staged copy, if one is present: the settings are replaced, the balance is clipped to the new ceiling and
CONTRACT_APPLIED is raised (R37). -/
def State.applyStaged (s : State) (src : Fin 32) : State :=
  match (s.contract src).staged with
  | none => s
  | some x =>
    (s.setContract src { s.contract src with
        settings := x, staged := none, balance := min (s.contract src).balance x.ceiling }).raise (.contractApplied src)

/-- Starts the source's timer at the time base now, by its mode; a TRIGGERED contract runs none (R90). -/
def State.startTimer (s : State) (src : Fin 32) : State :=
  s.setContract src { s.contract src with
    timer :=
      match (s.contract src).settings.mode with
      | .reload => .running .period s.timeBase (s.contract src).settings.periodTicks
      | .oneShot => .running .window s.timeBase (s.contract src).settings.periodTicks
      | .triggered => .stopped }

/-- Stops the source's timer (R91). -/
def State.stopTimer (s : State) (src : Fin 32) : State :=
  s.setContract src { s.contract src with timer := .stopped }

def State.setState (s : State) (src : Fin 32) (st : SourceState) : State :=
  s.setContract src { s.contract src with state := st }

def State.setBalance (s : State) (src : Fin 32) (b : Nat) : State :=
  s.setContract src { s.contract src with balance := b }

def State.setEdgeCount (s : State) (src : Fin 32) (n : Nat) : State :=
  s.setContract src { s.contract src with edgeCount := n }

/-! ### Queueing, drain and head check -/

/-- A slot becomes QUEUED: it joins the tail of the dispatch queue of its source's class (R69). -/
def State.enqueue (s : State) (src : Fin 32) (r : StoredReq) : State :=
  s.setQueue (s.contract src).settings.cls (s.queue (s.contract src).settings.cls ++ [r])

/-- A request of charge `charge` queued against the balance: reduced balance, queue, CHARGED_BEATS or, for charge 0,
FREE_BEATS (R66, R69, R70). -/
def State.queueCharged (s : State) (src : Fin 32) (r : StoredReq) : State :=
  ((s.setBalance src ((s.contract src).balance - r.charge)).enqueue src r).countSource src
    (if r.charge = 0 then .freeBeats else .chargedBeats) (if r.charge = 0 then r.beats else r.charge)

/-- The drain (R70): heads leave the list and are queued as long as the balance covers their charge. The fuel is the length
of the list, which each round shortens by one (log 14). -/
def State.drainFuel (src : Fin 32) : Nat → State → State
  | 0, s => s
  | n + 1, s =>
    match s.hold src with
    | [] => s
    | r :: rest =>
      if r.charge ≤ (s.contract src).balance then State.drainFuel src n ((s.setHold src rest).queueCharged src r)
      else s

def State.drain (s : State) (src : Fin 32) : State := State.drainFuel src (s.hold src).length s

/-- The head `r` expires: it leaves the list, WAIT_EXPIRED is raised, and it is refused (R74) or forced into dispatch without
charge (R75). -/
def State.expireHead (s : State) (src : Fin 32) (r : StoredReq) (rest : List StoredReq) : State :=
  match (s.contract src).settings.waitAction with
  | .refuse => (((s.setHold src rest).raise (.waitExpired src r.tag .refuse))).refuse r.source r.tag .waitExpired
  | .force =>
    (((s.setHold src rest).raise (.waitExpired src r.tag .force)).enqueue src r).countSource src .forcedBeats r.charge

/-- The head check and its cascade (R76): while the head has reached its limit it expires, and the drain runs. -/
def State.cascadeFuel (src : Fin 32) : Nat → State → State
  | 0, s => s
  | n + 1, s =>
    match s.hold src with
    | [] => s
    | r :: rest =>
      if s.reachedLimit src r then State.cascadeFuel src n ((s.expireHead src r rest).drain src) else s

def State.headCheck (s : State) (src : Fin 32) : State := State.cascadeFuel src (s.hold src).length s

/-- The drain and the head check that follows it within the same event (R70, R76). -/
def State.drainAndCheck (s : State) (src : Fin 32) : State := (s.drain src).headCheck src

/-! ### Boundaries, window ends, qualifying edges -/

/-- The refill: one budget more, up to the ceiling (R94). -/
def State.refill (s : State) (src : Fin 32) : State :=
  s.setBalance src (min ((s.contract src).balance + (s.contract src).settings.budget) (s.contract src).settings.ceiling)

/-- Step 3 of a boundary: a RELOAD timer starts its next period at the due time just reached, with the length read now; a
TRIGGERED contract's edge count returns to 0 (R92, R93, R95). -/
def State.nextPeriod (s : State) (src : Fin 32) : State :=
  match (s.contract src).timer with
  | .running m start length =>
    s.setContract src { s.contract src with
      timer := .running m (start + BitVec.ofNat 32 length) (s.contract src).settings.periodTicks }
  | .stopped => s.setEdgeCount src 0

/-- A boundary of a PACED source in RELOAD or TRIGGERED mode, as one event (R93). -/
def State.takeBoundary (s : State) (src : Fin 32) : State :=
  (((s.applyStaged src).refill src).nextPeriod src).drainAndCheck src

/-- The window end of a ONE_SHOT contract, as one event (R96). -/
def State.takeWindowEnd (s : State) (src : Fin 32) : State :=
  let s1 := (((s.stopTimer src).applyStaged src).setBalance src 0)
  let held := s1.hold src
  (((s1.setHold src []).refuseList .spent held).setState src .spent).raise (.windowClosed src held.length)

/-- A qualifying edge of line `n` at one source: counted while it is PACED, TRIGGERED and bound to the line, and a boundary
where the count reaches edges per refill (R103). -/
def State.countEdge (s : State) (n : Fin 4) (src : Fin 32) : State :=
  let c := s.contract src
  if c.state = .paced ∧ c.settings.mode = .triggered ∧ c.settings.triggerLine = n then
    if c.edgeCount + 1 = c.settings.edgesPerRefill then (s.setEdgeCount src (c.edgeCount + 1)).takeBoundary src
    else s.setEdgeCount src (c.edgeCount + 1)
  else s

def State.countEdges (s : State) (n : Fin 4) : List (Fin 32) → State
  | [] => s
  | src :: rest => (s.countEdge n src).countEdges n rest

/-- A qualifying edge: every source in ascending order (R103). -/
def State.qualifyingEdge (s : State) (n : Fin 4) : State := s.countEdges n (List.finRange 32)

/-- Whether settling at a level is a qualifying edge under an edge setting (R102). -/
def EdgeSetting.qualifies : EdgeSetting → Level → Bool
  | .rising, l => l = .high
  | .falling, l => l = .low
  | .both, _ => true

/-- A transition settles: the settled level becomes the new one, none is pending, and a qualifying edge acts (R101, R102). -/
def State.settle (s : State) (n : Fin 4) (level : Level) : State :=
  let l := s.line n
  let s1 := s.setLine n { l with settled := level, transition := none }
  if l.edge.qualifies level then s1.qualifyingEdge n else s1

/-! ### The region decision (chapter 2) -/

/-- The page of an address (R24). -/
def pageOf (a : Address) : Nat := a.toNat / 4096

/-- Whether an entry covers a request (R24). -/
def Region.covers (r : Region) (page : Nat) (src : Fin 32) : Bool :=
  r.valid && r.base ≤ page && page ≤ r.limit && r.mask.getLsbD src

/-- The covering entry with the lowest index (R25). -/
def State.matchRegion (s : State) (page : Nat) (src : Fin 32) : Option Region :=
  s.regions.toList.find? fun r => r.covers page src

/-- The charge an action and a weight give: none for BLOCKED (R27). -/
def RegionAction.charge (a : RegionAction) (w : Weight) (beats : Nat) : Option Nat :=
  match a with
  | .paced => some (beats * w.beats)
  | .free => some 0
  | .blocked => none

/-- The decision for a request: its charge, or none when it is BLOCKED (R25, R26, R27). -/
def State.decodeRegion (s : State) (address : Address) (src : Fin 32) (beats : Nat) : Option Nat :=
  match s.matchRegion (pageOf address) src with
  | some r => r.action.charge r.weight beats
  | none => s.globals.unmatchedAction.charge s.globals.unmatchedWeight beats

/-! ### The Outstanding Table -/

/-- An ACTIVE entry becomes ORPHANED: its response due time is cleared, the rest is kept (R124, R134, R137, R138). -/
def Entry.orphan : Entry → Entry
  | .free => .free
  | .active r => .orphaned { r with due := none }
  | .orphaned r => .orphaned r

/-- The completions that answer every ACTIVE entry ABORTED, by ascending index (R136, R138). -/
def State.activeAborts (s : State) : List Completion :=
  (List.finRange 64).filterMap fun d =>
    match s.entry d with
    | .active r => some (bareCompletion r.source (wireTag r.tag) .aborted)
    | .free => none
    | .orphaned _ => none

/-- Raises a class's credit count by 1 (R110). -/
def State.returnCredit (s : State) (c : Fin 4) : State :=
  s.setClass c { s.cls c with credits := (s.cls c).credits + 1 }

/-! ### The management port -/

/-- What a management command's own checks and effect give: the status and data of its response, and the state after its
effect. A refused command carries no data and leaves the state as it was (R169, R173). -/
structure Answer where
  status : Status
  data   : List Byte
  state  : State

/-- A refused command: status only, nothing changed (R173). -/
def refused (st : Status) (s : State) : Answer := ⟨st, [], s⟩

/-- A command whose opcode names a command is refused BAD_LENGTH for a length byte above 48, before its own checks
(R173 step 2). -/
def judged (f : Frame) (s : State) (own : Answer) : Answer := if f.tooLong then refused .badLength s else own

/-- The take of a management command (R168, R169, R174): nothing where the port does not listen; and else the answer's status and
data become the response, and its state stands. -/
def State.manage (s : State) (opcode : Byte) (a : Answer) : Host.Outcome State Fault Refusal :=
  if s.listening then .next { a.state with response := some ⟨opcode, a.status, a.data⟩ } else .next s

end Sys2Proof.Machine
end

