-- ==== Sys2Proof/Machine/CompletionUnit.lean ====
section
/-! DEFINITION. The Completion Unit's events: DOWNSTREAM_COMPLETION and RESPONSE_TIMEOUT (chapters 7 and 8). -/

namespace Sys2Proof.Machine

/-- The status and data of the upstream completion that answers an ACTIVE entry (R129). -/
def answerOf (r : Outstanding) (c : DCompletion) : CplStatus × List Beat :=
  match c.isOk, r.kind with
  | true, .read => if c.data.length = r.beats then (.ok, c.data) else (.memError, [])
  | true, .write => (.ok, [])
  | false, _ => (.memError, [])

/-- The bin of a latency under the edges E1..E7: the first one whose upper edge lies above it, and BIN7 for the rest (R148). -/
def binOf (edges : Vector Nat 7) (latency : Nat) : Fin 8 :=
  match (List.finRange 7).find? fun i => latency < edges[i] with
  | some i => i.castSucc
  | none => 7

/-- MIN_LATENCY and MAX_LATENCY after a measured latency (R149). -/
def ClassCounts.extremes (k : ClassCounts) (latency : Nat) : ClassCounts :=
  { k with minLatency := min k.minLatency latency, maxLatency := max k.maxLatency latency }

/-- Offers a residence to a source's MAX_RESIDENCE (R144). -/
def State.offerResidence (s : State) (src : Fin 32) (residence : Counter) : State :=
  s.setSrcCount src { s.srcCount src with
    maxResidence := if (s.srcCount src).maxResidence < residence then residence else (s.srcCount src).maxResidence }

/-- The service latency handed over: ticks since dispatch, saturated at 65535 (R131). -/
def State.latency (s : State) (r : Outstanding) : Nat := min (s.elapsed r.dispatch) 65535

/-- The measurement of a completion for an ACTIVE entry, in the order of R150. -/
def State.measure (s : State) (r : Outstanding) (isError : Bool) : State :=
  let s1 := (s.countClass r.cls .completions).countClass r.cls (.bin (binOf (s.cls r.cls).edges (s.latency r)))
  let s2 := s1.setClsCount r.cls ((s1.clsCount r.cls).extremes (s.latency r))
  let s3 := s2.offerResidence r.source (s.timeBase - r.arrival)
  if isError then s3.countClass r.cls .memErrors else s3

/-- A completion for ACTIVE entry `d`: upstream completion, credit, entry FREE, measurement (R129, R130, R131). -/
def State.completeActive (s : State) (d : Fin 64) (r : Outstanding) (c : DCompletion) : State :=
  let a := answerOf r c
  ((((s.joinReturn ⟨r.source, wireTag r.tag, a.1, a.2⟩).returnCredit r.cls).setEntry d .free).measure r
    (a.1 = .memError))

/-- A late completion, for ORPHANED entry `d` (R132). -/
def State.completeLate (s : State) (d : Fin 64) (r : Outstanding) : State :=
  (((s.returnCredit r.cls).setEntry d .free).countClass r.cls .late).raise (.lateCompletion r.source r.cls d)

/-- A stray completion (R133). -/
def State.completeStray (s : State) (d : Fin 64) : State := (s.countGlobal .stray).raise (.strayCompletion d)

/-- The match of a downstream completion by its tag alone (R128). -/
def State.matchCompletion (s : State) (c : DCompletion) : State :=
  match s.entry c.tag with
  | .active r => s.completeActive c.tag r c
  | .orphaned r => s.completeLate c.tag r
  | .free => s.completeStray c.tag

/-- DOWNSTREAM_COMPLETION (R16, R128): taken whatever DN_RDY; discarded without a count or an event while RESET_N is low. -/
def execDownstreamCompletion (header : BitVec 32) (data : List Beat) (s : State) :
    Host.Outcome State Fault Refusal :=
  if s.resetN = .low then .next s else .next (s.matchCompletion (DCompletion.ofMessage header data))

/-- The timeout of ACTIVE entry `d` (R134). -/
def State.timeOut (s : State) (d : Fin 64) (r : Outstanding) : State :=
  (((s.joinReturn (bareCompletion r.source (wireTag r.tag) .timeout)).setEntry d (.orphaned { r with due := none })).countClass
    r.cls .timeouts).raise (.responseTimeout r.source r.cls r.tag d)

/-- RESPONSE_TIMEOUT (R126, R134): none happens for an entry that is not ACTIVE or whose due time is absent or not reached. -/
def execResponseTimeout (entry : Fin 64) (s : State) : Host.Outcome State Fault Refusal :=
  if s.resetN = .high ∧ s.responseDue entry = true then
    match s.entry entry with
    | .active r => .next (s.timeOut entry r)
    | .free => .next s
    | .orphaned _ => .next s
  else .next s

end Sys2Proof.Machine
end

