-- ==== Sys2Proof/Machine/Contracts.lean ====
section
/-! DEFINITION. Management commands on contracts and hold lists: CONTRACT_READ, CONTRACT_WRITE, the five source commands and
HOLD_READ (chapters 3 and 4). Each `answer` follows the command's own checks in R173's order. -/

namespace Sys2Proof.Machine

/-! ### CONTRACT_READ -/

def answerContractRead (f : Frame) (s : State) : Answer :=
  match indexBelow 32 f.index.toNat with
  | none => refused .badIndex s
  | some src => if f.badLength 0 then refused .badLength s else ⟨.ok, (s.contract src).bytes, s⟩

/-- CONTRACT_READ (R52). -/
def execContractRead (f : Frame) (s : State) : Host.Outcome State Fault Refusal :=
  s.manage 0x10#8 (judged f s (answerContractRead f s))

/-! ### CONTRACT_WRITE -/

/-- Whether a ceiling is one a contract may hold (R35, R47 step 4). -/
def Settings.ceilingLegal (x : Settings) : Bool := Config.minCeiling ≤ x.ceiling && x.ceiling ≤ Config.maxCeiling

/-- Whether the mode and class restrictions refuse a write (R48): a change of either outside UNPACED, and a change of class in
UNPACED while a Request Store slot belongs to the source. -/
def State.changeRefused (s : State) (src : Fin 32) (x : Settings) : Bool :=
  let c := s.contract src
  if c.state = .unpaced then c.settings.cls ≠ x.cls && s.storesOf src
  else c.settings.mode ≠ x.mode || c.settings.cls ≠ x.cls

/-- An applied write: the settings are replaced and the balance is clipped to the new ceiling (R49). -/
def State.applyWrite (s : State) (src : Fin 32) (x : Settings) : State :=
  s.setContract src { s.contract src with settings := x, balance := min (s.contract src).balance x.ceiling }

/-- A staged write: the settings become the staged copy (R50). -/
def State.stageWrite (s : State) (src : Fin 32) (x : Settings) : State :=
  s.setContract src { s.contract src with staged := some x }

/-- CONTRACT_WRITE's checks in their order (R47, R48), and then its effect by the state it finds (R49, R50). A write that comes together with
the window end of its source, the window end taken first, finds the source SPENT and is applied at once, as R37, R47, R49 and R97 give; R55
says of that order that the write "is then staged" (DESIGN CHOICE, log 22: the rules of the state it finds are followed). -/
def answerContractWrite (f : Frame) (s : State) : Answer :=
  match indexBelow 32 f.index.toNat with
  | none => refused .badIndex s
  | some src =>
    if f.badLength 16 then refused .badLength s
    else
      match Settings.ofFrame f with
      | none => refused .badValue s
      | some x =>
        if !x.ceilingLegal then refused .badValue s
        else if s.changeRefused src x then refused .state s
        else if (s.contract src).state = .paced then ⟨.staged, [], s.stageWrite src x⟩
        else ⟨.ok, [], s.applyWrite src x⟩

/-- CONTRACT_WRITE (R47 to R50). -/
def execContractWrite (f : Frame) (s : State) : Host.Outcome State Fault Refusal :=
  s.manage 0x11#8 (judged f s (answerContractWrite f s))

/-! ### Source commands -/

/-- The pairs of command and present state and mode that R39 allows. -/
def SourceCmd.allowed (cmd : SourceCmd) (c : Contract) : Bool :=
  match cmd with
  | .enable => c.state = .unpaced
  | .disable => c.state = .paced || c.state = .spent
  | .bar => c.state ≠ .barred
  | .unbar => c.state = .barred
  | .arm => (c.state = .paced || c.state = .spent) && c.settings.mode = .oneShot

/-- ENABLE's effect (R40). -/
def State.enableSource (s : State) (src : Fin 32) : State :=
  (((s.setState src .paced).setBalance src (s.contract src).settings.budget).setEdgeCount src 0).startTimer src

/-- Every request of a hold list that has left it joins the class dispatch queue uncharged, oldest first, counted in
FREE_BEATS by its length (R41 step 4, R69). -/
def State.releaseList (s : State) (src : Fin 32) : List StoredReq → State
  | [] => s
  | r :: rest => ((s.enqueue src r).countSource src .freeBeats r.beats).releaseList src rest

/-- DISABLE's effect in PACED (R41). -/
def State.disablePaced (s : State) (src : Fin 32) : State :=
  let s1 := ((s.setState src .unpaced).stopTimer src).applyStaged src
  (s1.setHold src []).releaseList src (s1.hold src)

/-- DISABLE's effect (R41, R42). -/
def State.disableSource (s : State) (src : Fin 32) : State :=
  if (s.contract src).state = .paced then s.disablePaced src else s.setState src .unpaced

/-- BAR's effect (R43, R108): the hold list is refused oldest first, then the source's requests in its class dispatch queue,
in queue order; the other sources' requests keep their order. -/
def State.barSource (s : State) (src : Fin 32) : State :=
  let s1 := ((s.setState src .barred).stopTimer src).applyStaged src
  let s2 := (s1.setHold src []).refuseList .barred (s1.hold src)
  let c := (s2.contract src).settings.cls
  (s2.setQueue c ((s2.queue c).filter fun r => r.source ≠ src)).refuseList .barred
    ((s2.queue c).filter fun r => r.source = src)

/-- UNBAR's effect (R45). -/
def State.unbarSource (s : State) (src : Fin 32) : State := s.setState src .unpaced

/-- ARM's effect (R46). -/
def State.armSource (s : State) (src : Fin 32) : State :=
  let s1 := (s.applyStaged src).setState src .paced
  ((s1.setBalance src (s1.contract src).settings.budget).startTimer src).drainAndCheck src

/-- The checks of SOURCE_COMMAND for the command `cmd` (R39), and its effect. The code byte must name `cmd`: in a
well-formed command it names it or names no command, which is BAD_VALUE (log 11). -/
def answerSource (cmd : SourceCmd) (effect : State → Fin 32 → State) (f : Frame) (s : State) : Answer :=
  match indexBelow 32 f.index.toNat with
  | none => refused .badIndex s
  | some src =>
    if f.badLength 1 then refused .badLength s
    else if SourceCmd.ofCode (f.u8 0) ≠ some cmd then refused .badValue s
    else if !SourceCmd.allowed cmd (s.contract src) then refused .state s
    else ⟨.ok, [], effect s src⟩

/-- ENABLE (R39, R40). -/
def execEnable (f : Frame) (s : State) : Host.Outcome State Fault Refusal :=
  s.manage 0x12#8 (judged f s (answerSource .enable State.enableSource f s))

/-- DISABLE (R39, R41, R42). -/
def execDisable (f : Frame) (s : State) : Host.Outcome State Fault Refusal :=
  s.manage 0x12#8 (judged f s (answerSource .disable State.disableSource f s))

/-- BAR (R39, R43, R44). -/
def execBar (f : Frame) (s : State) : Host.Outcome State Fault Refusal :=
  s.manage 0x12#8 (judged f s (answerSource .bar State.barSource f s))

/-- UNBAR (R39, R45). -/
def execUnbar (f : Frame) (s : State) : Host.Outcome State Fault Refusal :=
  s.manage 0x12#8 (judged f s (answerSource .unbar State.unbarSource f s))

/-- ARM (R39, R46). -/
def execArm (f : Frame) (s : State) : Host.Outcome State Fault Refusal :=
  s.manage 0x12#8 (judged f s (answerSource .arm State.armSource f s))

/-! ### HOLD_READ -/

def answerHoldRead (f : Frame) (s : State) : Answer :=
  match indexBelow 32 f.index.toNat with
  | none => refused .badIndex s
  | some src =>
    if f.badLength 1 then refused .badLength s
    else
      match (s.hold src)[f.u8 0]? with
      | none => refused .badIndex s
      | some r => ⟨.ok, [byteOf r.tag.val, byteOf r.charge] ++ bytes4 (s.elapsed r.arrival), s⟩

/-- HOLD_READ (R86). -/
def execHoldRead (f : Frame) (s : State) : Host.Outcome State Fault Refusal :=
  s.manage 0x13#8 (judged f s (answerHoldRead f s))

end Sys2Proof.Machine
end

