-- ==== Sys2Proof/Machine/DispatchUnit.lean ====
section
/-! DEFINITION. The Dispatch Unit's event: GRANT (chapter 6). -/

namespace Sys2Proof.Machine

/-- The response due time set at a grant: absent for limit 0, else dispatch time + 4 × limit modulo 2^32 (R126). -/
def dueAt (dispatch : Time) (limit : Nat) : Option Time :=
  if limit = 0 then none else some (dispatch + BitVec.ofNat 32 (4 * limit))

/-- The request sent at the D-port for a slot and the entry allocated to it (R4, R15). -/
def StoredReq.sent (r : StoredReq) (d : Fin 64) : DRequest :=
  ⟨r.kind, r.source, d, r.address, r.beats, r.data⟩

/-- What the allocated entry records (R118 steps 5 and 6, R124). -/
def State.entryFor (s : State) (c : Fin 4) (r : StoredReq) : Outstanding where
  source := r.source
  tag := r.tag
  cls := c
  kind := r.kind
  beats := r.beats
  arrival := r.arrival
  dispatch := s.timeBase
  due := dueAt s.timeBase (s.cls c).responseLimit

/-- The grant of head `r` of class `c`'s queue to FREE entry `d` (R118); the rotation pointer is set to the class one above
(R116). The slot's ticket passes to the entry, so the count of tickets stands. -/
def State.grantHead (s : State) (c : Fin 4) (r : StoredReq) (rest : List StoredReq) (d : Fin 64) : State :=
  { ((s.setQueue c rest).setEntry d (.active (s.entryFor c r))).setClass c
      { s.cls c with credits := (s.cls c).credits - 1 } with
    dlReq := some (r.sent d)
    rotation := c + 1 }

/-- GRANT (R114 to R118): one grant, or none while no class is eligible. -/
def execGrant (s : State) : Host.Outcome State Fault Refusal :=
  match s.winner, s.freeEntry with
  | some c, some d =>
    match s.queue c with
    | r :: rest => .next (s.grantHead c r rest d)
    | [] => .next s
  | _, _ => .next s

end Sys2Proof.Machine
end

