-- ==== Sys2Proof/Machine/Management.lean ====
section
/-! DEFINITION. The management port's own events (COMMAND_CUT, RESPONSE_CUT, UNKNOWN_OPCODE) and the commands that read or change
what belongs to no source, region, class or line (chapters 8, 9 and 10). -/

namespace Sys2Proof.Machine

/-! ### Cuts and unknown opcodes -/

/-- COMMAND_CUT (R170, R172): nothing changes but the last frame fault; no response is driven. Bytes that are none, or that
reach a take, are no cut command, and a port that does not listen has no command to cut (R174). -/
def execCommandCut (bytes : List Byte) (s : State) : Host.Outcome State Fault Refusal :=
  match bytes with
  | [] => .next s
  | opcode :: rest =>
    if s.listening ∧ reachesTake (opcode :: rest) = false then
      .next { s with response := none, frameFault := ⟨.commandCut, opcode, rest.length + 1⟩ }
    else .next s

/-- RESPONSE_CUT (R171, R172): the effect of the command stands, the rest of its response is lost. With no response under way,
or with all M + 2 bytes completed, no response is cut. -/
def execResponseCut (bytesDone : Nat) (s : State) : Host.Outcome State Fault Refusal :=
  match s.response with
  | none => .next s
  | some r =>
    if s.listening ∧ bytesDone < r.data.length + 2 then
      .next { s with response := none, frameFault := ⟨.responseCut, r.opcode, bytesDone⟩ }
    else .next s

/-- UNKNOWN_OPCODE (R173 step 1): BAD_OPCODE whatever the index and length bytes hold, and nothing changes. -/
def execUnknownOpcode (opcode : Byte) (f : Frame) (s : State) : Host.Outcome State Fault Refusal :=
  let _ := f
  s.manage opcode (refused .badOpcode s)

/-! ### Identification, status, time -/

def answerIdentify (f : Frame) (s : State) : Answer :=
  if f.badLength 0 then refused .badLength s else ⟨.ok, identifyBytes, s⟩

/-- IDENTIFY (R175). -/
def execIdentify (f : Frame) (s : State) : Host.Outcome State Fault Refusal :=
  s.manage 0x01#8 (judged f s (answerIdentify f s))

/-- STATUS returns the last frame fault as it stands and then sets it to NONE (R172, R176). -/
def answerStatus (f : Frame) (s : State) : Answer :=
  if f.badLength 0 then refused .badLength s
  else ⟨.ok, s.statusBytes, { s with frameFault := FrameFault.none }⟩

/-- STATUS (R176). -/
def execStatus (f : Frame) (s : State) : Host.Outcome State Fault Refusal :=
  s.manage 0x02#8 (judged f s (answerStatus f s))

def answerTimeRead (f : Frame) (s : State) : Answer :=
  if f.badLength 0 then refused .badLength s else ⟨.ok, bytes4 s.timeBase.toNat, s⟩

/-- TIME_READ (R87). -/
def execTimeRead (f : Frame) (s : State) : Host.Outcome State Fault Refusal :=
  s.manage 0x03#8 (judged f s (answerTimeRead f s))

/-! ### Global settings -/

def answerGlobalRead (f : Frame) (s : State) : Answer :=
  if f.badLength 0 then refused .badLength s else ⟨.ok, s.globals.bytes, s⟩

/-- GLOBAL_READ (R177). -/
def execGlobalRead (f : Frame) (s : State) : Host.Outcome State Fault Refusal :=
  s.manage 0x38#8 (judged f s (answerGlobalRead f s))

def answerGlobalWrite (f : Frame) (s : State) : Answer :=
  if f.badLength 5 then refused .badLength s
  else
    match GlobalSettings.ofFrame f with
    | none => refused .badValue s
    | some g => ⟨.ok, [], { s with globals := g }⟩

/-- GLOBAL_WRITE (R177). -/
def execGlobalWrite (f : Frame) (s : State) : Host.Outcome State Fault Refusal :=
  s.manage 0x39#8 (judged f s (answerGlobalWrite f s))

/-! ### Counters -/

/-- The group a scope code and an index name; `none` for an index outside the scope's range (R152). -/
def Group.of (scope index : Nat) : Option Group :=
  match scope with
  | 0 => (indexBelow 32 index).map Group.source
  | 1 => (indexBelow 4 index).map Group.cls
  | 2 => if index = 0 then some .global else none
  | _ => none

/-- The snapshot of a group (R152). -/
def State.groupBytes (s : State) : Group → List Byte
  | .source src => (s.srcCount src).bytes
  | .cls c => (s.clsCount c).bytes
  | .global => s.globCounts.bytes

/-- Every member of a group takes its cleared value (R153). -/
def State.clearGroup (s : State) : Group → State
  | .source src => s.setSrcCount src SourceCounts.cleared
  | .cls c => s.setClsCount c ClassCounts.cleared
  | .global => { s with globCounts := GlobalCounts.cleared }

/-- The checks of COUNTERS_READ (R152), its snapshot, and `after` on the group it names. -/
def answerCounters (after : State → Group → State) (f : Frame) (s : State) : Answer :=
  if f.badLength 2 then refused .badLength s
  else if 2 < f.u8 0 ∨ 1 < f.u8 1 then refused .badValue s
  else
    match Group.of (f.u8 0) f.index.toNat with
    | none => refused .badIndex s
    | some g => ⟨.ok, s.groupBytes g, after s g⟩

/-- COUNTERS_READ without clear (R152): reading changes nothing. -/
def execCountersRead (f : Frame) (s : State) : Host.Outcome State Fault Refusal :=
  s.manage 0x40#8 (judged f s (answerCounters (fun t _ => t) f s))

/-- COUNTERS_READ with clear (R153): the group is cleared right after the snapshot. -/
def execCountersReadClear (f : Frame) (s : State) : Host.Outcome State Fault Refusal :=
  s.manage 0x40#8 (judged f s (answerCounters State.clearGroup f s))

/-! ### Events -/

def answerEventRead (f : Frame) (s : State) : Answer :=
  if f.badLength 0 then refused .badLength s
  else
    match s.evq.records with
    | [] => refused .empty s
    | r :: rest => ⟨.ok, r.bytes (rest.length + 1), s⟩

/-- EVENT_READ (R163). -/
def execEventRead (f : Frame) (s : State) : Host.Outcome State Fault Refusal :=
  s.manage 0x48#8 (judged f s (answerEventRead f s))

/-- The head leaves the queue; with a lost count that is not 0, OVERFLOW joins with it and the count becomes 0 (R162, R164). -/
def EventQueue.release (q : EventQueue) (time : Time) (rest : List EventRecord) : EventQueue :=
  if q.lost = 0 then { q with records := rest }
  else { ({ q with records := rest } : EventQueue).join time (.overflow q.lost) with lost := 0 }

def answerEventRelease (f : Frame) (s : State) : Answer :=
  if f.badLength 2 then refused .badLength s
  else
    match s.evq.records with
    | [] => refused .empty s
    | r :: rest =>
      if r.seq.toNat ≠ f.u16 0 then refused .state s
      else ⟨.ok, [], { s with evq := s.evq.release s.timeBase rest }⟩

/-- EVENT_RELEASE (R164). -/
def execEventRelease (f : Frame) (s : State) : Host.Outcome State Fault Refusal :=
  s.manage 0x49#8 (judged f s (answerEventRelease f s))

/-! ### TRAFFIC_RESET -/

/-- The stored requests in the order TRAFFIC_RESET aborts them: hold lists by ascending source, then dispatch queues by
ascending class, each head to tail (R83). -/
def State.storedInOrder (s : State) : List StoredReq :=
  ((List.finRange 32).flatMap fun src => s.hold src) ++ ((List.finRange 4).flatMap fun c => s.queue c)

/-- Steps 1 and 2 of TRAFFIC_RESET: the store is aborted, and then every ACTIVE entry (R83, R138, R178). -/
def State.abortTraffic (s : State) : State :=
  { s.abortList s.storedInOrder with
    returnQ := (s.abortList s.storedInOrder).returnQ ++ s.activeAborts
    holds := Vector.replicate 32 []
    queues := Vector.replicate 4 []
    entries := s.entries.map Entry.orphan }

/-- Step 3 for one source: a PACED contract applies its staged copy and starts afresh (R57). -/
def State.restartContract (s : State) (src : Fin 32) : State :=
  if (s.contract src).state = .paced then
    let s1 := s.applyStaged src
    ((s1.setBalance src (s1.contract src).settings.budget).setEdgeCount src 0).startTimer src
  else s

def State.restartContracts (s : State) : List (Fin 32) → State
  | [] => s
  | src :: rest => (s.restartContract src).restartContracts rest

/-- TRAFFIC_RESET's effect (R178). -/
def State.resetTraffic (s : State) : State := s.abortTraffic.restartContracts (List.finRange 32)

def answerTrafficReset (f : Frame) (s : State) : Answer :=
  if f.badLength 0 then refused .badLength s
  else ⟨.ok, [byteOf s.occupancy, byteOf s.activeCount], s.resetTraffic⟩

/-- TRAFFIC_RESET (R178). -/
def execTrafficReset (f : Frame) (s : State) : Host.Outcome State Fault Refusal :=
  s.manage 0x50#8 (judged f s (answerTrafficReset f s))

end Sys2Proof.Machine
end

