-- ==== Sys2Proof/Machine/PathEvents.lean ====
section
/-! DEFINITION. Path events and resets: POWER_ON_RESET, RESET_N_FALL, UPSTREAM_RESET, UP_RDY_RISE, DOWNSTREAM_DOWN and
DOWNSTREAM_UP (chapters 1, 6 and 7). A pin event that finds the pin already at its new level is no event, and one while
RESET_N is low moves the pin only (R21, log 3, log 5). -/

namespace Sys2Proof.Machine

/-- POWER_ON_RESET (R21, R33, R58, R85, R99, R106, R123, R142, R154, R167, R172, R174): every block takes its power-on values
over the levels the input pins have at the rise; the operand is that of MCS_N. -/
def execPowerOnReset (mcsN : Level) (s : State) : Host.Outcome State Fault Refusal :=
  .next (State.powerOn s.upRdy s.dnRdyPin (s.lines.map Line.pin) { s.port with mcsN := mcsN } s.pending s.wire s.choices)

/-- What a fall of RESET_N abandons: every live request, filled slot, entry and completion, every event record and the lost
count, running timers, pending transitions and the transaction in progress; the time base holds 0 (R21, R85, R87, R99, R106,
R142, R167, R174). What the rise of RESET_N sets is left to the rise (log 5). -/
def State.abandon (s : State) : State :=
  { s with
    resetN := .low
    timeBase := 0
    tickets := 0
    liveTags := noLiveTags
    returnQ := []
    contracts := s.contracts.map fun c => { c with timer := .stopped }
    holds := Vector.replicate 32 []
    queues := Vector.replicate 4 []
    entries := Vector.replicate 64 .free
    evq := { s.evq with records := [], lost := 0 }
    lines := s.lines.map fun l => { l with transition := none }
    port := s.port.cleared
    response := none }

/-- RESET_N_FALL (R21). -/
def execResetNFall (s : State) : Host.Outcome State Fault Refusal :=
  if s.resetN = .low then .next s else .next s.abandon

/-- What an upstream reset does before its event is raised (R18, R82, R109, R137). -/
def State.dropUpstream (s : State) : State :=
  { s with
    upRdy := .low
    tickets := 0
    liveTags := noLiveTags
    returnQ := []
    holds := Vector.replicate 32 []
    queues := Vector.replicate 4 []
    entries := s.entries.map Entry.orphan }

/-- UPSTREAM_RESET (R18): the detail counts the slots discarded and the entries orphaned. -/
def execUpstreamReset (s : State) : Host.Outcome State Fault Refusal :=
  if s.resetN = .low then .next { s with upRdy := .low }
  else if s.upRdy = .low then .next s
  else .next (s.dropUpstream.raise (.upstreamReset s.occupancy s.activeCount))

/-- UP_RDY_RISE (R20): the level changes, with no further effect. -/
def execUpRdyRise (s : State) : Host.Outcome State Fault Refusal := .next { s with upRdy := .high }

/-- What a downstream down does before its event is raised: aborts ACTIVE entries by ascending index, frees every entry and
zeroes every credit count (R113, R136). -/
def State.dropDownstream (s : State) : State :=
  { s with
    dnRdyPin := .low
    dnRdy := .low
    returnQ := s.returnQ ++ s.activeAborts
    entries := Vector.replicate 64 .free
    classes := s.classes.map fun c => { c with credits := 0 } }

/-- DOWNSTREAM_DOWN (R17, R113, R136); none arises while the part already treats DN_RDY as low (R17). -/
def execDownstreamDown (s : State) : Host.Outcome State Fault Refusal :=
  if s.resetN = .low ∨ s.dnRdy = .low then .next { s with dnRdyPin := .low }
  else .next (s.dropDownstream.raise (.downstreamDown s.activeCount s.orphanCount))

/-- A class at a downstream up: a staged default credit is applied, and the default credit is loaded (R112). -/
def ClassRec.load (c : ClassRec) : ClassRec :=
  { c with
    defaultCredit := c.stagedCredit.getD c.defaultCredit
    stagedCredit := none
    credits := c.stagedCredit.getD c.defaultCredit }

/-- What a downstream up does before its event is raised (R17, R112). -/
def State.loadCredits (s : State) : State :=
  { s with dnRdyPin := .high, dnRdy := .high, classes := s.classes.map ClassRec.load }

/-- The total of the four credit counts (R112). -/
def State.totalCredits (s : State) : Nat := sumFin 4 fun c => (s.cls c).credits

/-- DOWNSTREAM_UP (R17, R112): a rise of DN_RDY, or its first sight after RESET_N rose. -/
def execDownstreamUp (s : State) : Host.Outcome State Fault Refusal :=
  if s.resetN = .low ∨ s.dnRdy = .high then .next { s with dnRdyPin := .high }
  else .next (s.loadCredits.raise (.downstreamUp s.loadCredits.totalCredits))

end Sys2Proof.Machine
end

