-- ==== Sys2Proof/Machine/Tables.lean ====
section
/-! DEFINITION. Management commands on regions, classes and trigger lines: REGION_READ, REGION_WRITE, CLASS_READ, CLASS_WRITE,
LINE_READ and LINE_WRITE (chapters 2, 5, 6, 7 and 8). -/

namespace Sys2Proof.Machine

/-! ### Regions -/

def answerRegionRead (f : Frame) (s : State) : Answer :=
  match indexBelow 16 f.index.toNat with
  | none => refused .badIndex s
  | some i => if f.badLength 0 then refused .badLength s else ⟨.ok, (s.region i).bytes, s⟩

/-- REGION_READ (R30). -/
def execRegionRead (f : Frame) (s : State) : Host.Outcome State Fault Refusal :=
  s.manage 0x20#8 (judged f s (answerRegionRead f s))

def answerRegionWrite (f : Frame) (s : State) : Answer :=
  match indexBelow 16 f.index.toNat with
  | none => refused .badIndex s
  | some i =>
    if f.badLength 15 then refused .badLength s
    else
      match Region.ofFrame f with
      | none => refused .badValue s
      | some r => if r.limit < r.base then refused .badValue s else ⟨.ok, [], s.setRegion i r⟩

/-- REGION_WRITE (R29). -/
def execRegionWrite (f : Frame) (s : State) : Host.Outcome State Fault Refusal :=
  s.manage 0x21#8 (judged f s (answerRegionWrite f s))

/-! ### Classes -/

def answerClassRead (f : Frame) (s : State) : Answer :=
  match indexBelow 4 f.index.toNat with
  | none => refused .badIndex s
  | some c =>
    if f.badLength 0 then refused .badLength s else ⟨.ok, (s.cls c).bytes (s.queue c).length, s⟩

/-- CLASS_READ (R122). -/
def execClassRead (f : Frame) (s : State) : Host.Outcome State Fault Refusal :=
  s.manage 0x28#8 (judged f s (answerClassRead f s))

/-- The default-credit part of a CLASS_WRITE: applied at once, discarding a staged value, while DN_RDY is low as the part
treats it, and staged while it is high (R111). -/
def ClassRec.writeCredit (c : ClassRec) (dnRdy : Level) (credit : Nat) : ClassRec :=
  match dnRdy with
  | .low => { c with defaultCredit := credit, stagedCredit := none }
  | .high => { c with stagedCredit := some credit }

/-- An edge change clears COMPLETIONS, the bins and the latency extremes (R151). -/
def ClassCounts.edgeChange (k : ClassCounts) : ClassCounts :=
  { k with completions := 0, bins := Vector.replicate 8 0, minLatency := 65535, maxLatency := 0 }

/-- The effect of a CLASS_WRITE that passed its checks (R111, R121, R127, R151). -/
def State.writeClass (s : State) (c : Fin 4) (credit limit : Nat) (edges : Vector Nat 7) : State :=
  let s1 := s.setClass c { (s.cls c).writeCredit s.dnRdy credit with responseLimit := limit, edges := edges }
  if (s.cls c).edges = edges then s1 else s1.setClsCount c (s.clsCount c).edgeChange

def answerClassWrite (f : Frame) (s : State) : Answer :=
  match indexBelow 4 f.index.toNat with
  | none => refused .badIndex s
  | some c =>
    if f.badLength 17 then refused .badLength s
    else if classCredit f = 0 ∨ 32 < classCredit f then refused .badValue s
    else if !edgesLegal (classEdges f) then refused .badValue s
    else ⟨if s.dnRdy = .high then .staged else .ok, [],
      s.writeClass c (classCredit f) (classLimit f) (classEdges f)⟩

/-- CLASS_WRITE (R121). -/
def execClassWrite (f : Frame) (s : State) : Host.Outcome State Fault Refusal :=
  s.manage 0x29#8 (judged f s (answerClassWrite f s))

/-! ### Trigger lines -/

def answerLineRead (f : Frame) (s : State) : Answer :=
  match indexBelow 4 f.index.toNat with
  | none => refused .badIndex s
  | some n => if f.badLength 0 then refused .badLength s else ⟨.ok, (s.line n).bytes, s⟩

/-- LINE_READ (R105). -/
def execLineRead (f : Frame) (s : State) : Host.Outcome State Fault Refusal :=
  s.manage 0x30#8 (judged f s (answerLineRead f s))

/-- The effect of a LINE_WRITE that passed its checks (R105): the settings are replaced; a pending transition restarts its
filter check, and settles within the write under filter 0. -/
def State.writeLine (s : State) (n : Fin 4) (edge : EdgeSetting) (filter : Nat) : State :=
  let l := s.line n
  match l.transition with
  | none => s.setLine n { l with edge := edge, filter := filter }
  | some (level, _) =>
    if filter = 0 then (s.setLine n { l with edge := edge, filter := filter }).settle n level
    else s.setLine n { l with edge := edge, filter := filter, transition := some (level, s.timeBase) }

def answerLineWrite (f : Frame) (s : State) : Answer :=
  match indexBelow 4 f.index.toNat with
  | none => refused .badIndex s
  | some n =>
    if f.badLength 2 then refused .badLength s
    else
      match lineOfFrame f with
      | none => refused .badValue s
      | some (edge, filter) => ⟨.ok, [], s.writeLine n edge filter⟩

/-- LINE_WRITE (R105). -/
def execLineWrite (f : Frame) (s : State) : Host.Outcome State Fault Refusal :=
  s.manage 0x31#8 (judged f s (answerLineWrite f s))

end Sys2Proof.Machine
end

