-- ==== Sys2Proof/Machine/Timers.lean ====
section
/-! DEFINITION. Events of the period timers, the hold lists' head waits and the trigger lines: BOUNDARY, HEAD_EXPIRY, WINDOW_END,
TRIGGER_PIN_CHANGE and TRANSITION_SETTLES (chapters 4 and 5). An event that is not due does not happen (R54, R91, log 3). -/

namespace Sys2Proof.Machine

/-- BOUNDARY (R92, R93). -/
def execBoundary (source : Fin 32) (s : State) : Host.Outcome State Fault Refusal :=
  if s.resetN = .high ∧ s.boundaryDue source = true then .next (s.takeBoundary source) else .next s

/-- HEAD_EXPIRY (R73 to R76): the head that reached its limit expires, the drain runs, and the cascade goes on from the new
head. -/
def execHeadExpiry (source : Fin 32) (s : State) : Host.Outcome State Fault Refusal :=
  if s.resetN = .high ∧ s.headDue source = true then .next (s.headCheck source) else .next s

/-- WINDOW_END (R96). -/
def execWindowEnd (source : Fin 32) (s : State) : Host.Outcome State Fault Refusal :=
  if s.resetN = .high ∧ s.windowDue source = true then .next (s.takeWindowEnd source) else .next s

/-- A change of a pin's level at its line (R101): back to the settled level drops a pending transition; away from it settles
at once under filter 0, and is else recorded as pending. -/
def State.pinChange (s : State) (n : Fin 4) (level : Level) : State :=
  let l := s.line n
  if level = l.settled then s.setLine n { l with pin := level, transition := none }
  else if l.filter = 0 then (s.setLine n { l with pin := level }).settle n level
  else s.setLine n { l with pin := level, transition := some (level, s.timeBase) }

/-- TRIGGER_PIN_CHANGE (R101, R106): a pin already at the level does not change, and while RESET_N is low the line is not
watched. -/
def execTriggerPinChange (line : Fin 4) (level : Level) (s : State) : Host.Outcome State Fault Refusal :=
  if s.resetN = .low then .next (s.setLine line { s.line line with pin := level })
  else if (s.line line).pin = level then .next s
  else .next (s.pinChange line level)

/-- TRANSITION_SETTLES (R101, R102, R103). -/
def execTransitionSettles (line : Fin 4) (s : State) : Host.Outcome State Fault Refusal :=
  if s.resetN = .high ∧ s.transitionDue line = true then
    match (s.line line).transition with
    | some (level, _) => .next (s.settle line level)
    | none => .next s
  else .next s

end Sys2Proof.Machine
end

