-- ==== Sys2Proof/Machine/UPort.lean ====
section
/-! DEFINITION. The U-port and the arrival decision: TAKE and HAND_OVER (chapters 1 and 4). -/

namespace Sys2Proof.Machine

/-- Whether a request of kind `k` breaks a form rule (R1, R9). -/
def badForm (q : Request) (k : Kind) : Bool :=
  q.address.toNat % 32 ≠ 0 || 4096 < q.address.toNat % 4096 + 32 * q.beats
    || match k with
       | .read => !q.data.isEmpty
       | .write => q.data.length ≠ q.beats

/-- A MALFORMED refusal at the port: completion, MALFORMED counted, REFUSAL raised (R7, R9). -/
def State.refuseMalformed (s : State) (src : Fin 32) (tag : Fin 64) : State :=
  ((s.joinReturn (bareCompletion src tag (.refused .malformed))).countGlobal .malformed).raise
    (.refusal src tag .malformed)

/-- A duplicate is dropped: its ticket freed within the take, DUPLICATES counted, DUPLICATE_TAG raised (R8). -/
def State.dropDuplicate (s : State) (src : Fin 32) (tag : Fin 16) : State :=
  (({ s with tickets := s.tickets - 1 }).countGlobal .duplicates).raise (.duplicateTag src tag)

/-- A request joins the tail of its source's hold list: HELD_COUNT, MAX_HOLD_DEPTH, and HOLD_START when it becomes the head of
an empty list (R67, R144). -/
def State.holdRequest (s : State) (src : Fin 32) (r : StoredReq) : State :=
  let s1 := (s.setHold src (s.hold src ++ [r])).countSource src .heldCount 1
  let depth := (s.hold src).length + 1
  let s2 := s1.setSrcCount src
    { s1.srcCount src with maxHoldDepth := max (s1.srcCount src).maxHoldDepth depth }
  if s.hold src = [] then s2.raise (.holdStart src r.tag) else s2

/-- Steps 5 to 8 of the arrival decision, for a request that has a FREE slot and whose source is UNPACED or PACED (R62, R65 to
R68). -/
def State.placeArrival (s : State) (r : StoredReq) : State :=
  let c := s.contract r.source
  if c.state = .unpaced then (s.enqueue r.source r).countSource r.source .freeBeats r.beats
  else if s.hold r.source = [] ∧ r.charge ≤ c.balance then s.queueCharged r.source r
  else if (s.hold r.source).length < c.settings.holdLimit then s.holdRequest r.source r
  else s.refuse r.source r.tag .holdFull

/-- Steps 1 to 4 of the arrival decision, and a slot for what passes them (R59, R62, R63, R64). -/
def State.decideArrival (s : State) (q : Request) (k : Kind) (tag : Fin 16) : State :=
  match s.decodeRegion q.address q.source q.beats with
  | none => s.refuse q.source tag .blocked
  | some charge =>
    match (s.contract q.source).state with
    | .barred => s.refuse q.source tag .barred
    | .spent => s.refuse q.source tag .spent
    | .unpaced | .paced =>
      match s.freeSlot with
      | none => s.refuse q.source tag .storeFull
      | some slot =>
        s.placeArrival
          { slot := slot, kind := k, source := q.source, tag := tag, address := q.address, beats := q.beats,
            data := q.data, charge := charge, arrival := s.timeBase }

/-- The checks at the take and the hand-off (R5, R7 to R10); ARRIVALS is raised first in the Admission Unit (R62). -/
def State.takeRequest (s : State) (q : Request) : State :=
  let s1 := { s with tickets := s.tickets + 1 }
  match liveTag? q.tag with
  | none => s1.refuseMalformed q.source q.tag
  | some tag =>
    if s1.live q.source tag then s1.dropDuplicate q.source tag
    else
      let s2 := s1.setLive q.source tag true
      match q.kind with
      | none => s2.refuseMalformed q.source q.tag
      | some k =>
        if badForm q k then s2.refuseMalformed q.source q.tag
        else (s2.countSource q.source .arrivals 1).decideArrival q k tag

/-- Whether the U-port takes a presented request (R5). -/
def State.canTake (s : State) : Bool := s.resetN = .high && s.upRdy = .high && s.tickets < Config.ticketPool

/-- TAKE (R5): a presented request is taken, or stays untaken with the partner. -/
def execTake (header : BitVec 64) (data : List Beat) (s : State) : Host.Outcome State Fault Refusal :=
  if s.canTake then .next (s.takeRequest (Request.ofMessage header data)) else .next s

/-- What a hand-over of completion `c` does (R13). -/
def State.handOverHead (s : State) (c : Completion) : State :=
  let s1 := { s with returnQ := s.returnQ.tail, tickets := s.tickets - 1, ulCpl := some c }
  match liveTag? c.tag with
  | none => s1
  | some tag => s1.setLive c.source tag false

/-- HAND_OVER (R13): the partner accepts the offered completion; while none is offered there is nothing to accept. -/
def execHandOver (s : State) : Host.Outcome State Fault Refusal :=
  match s.offered with
  | none => .next s
  | some c => .next (s.handOverHead c)

end Sys2Proof.Machine
end

