-- ==== Sys2Proof/Machine/Dispatch.lean ====
section
/-! DEFINITION. The dispatch: each command's meaning. -/

namespace Sys2Proof.Machine

def exec (i : Instr) (s : State) : Host.Outcome State Fault Refusal :=
  match i with
  | .powerOnReset mcsN => Sys2Proof.Machine.execPowerOnReset mcsN s
  | .resetNFall => Sys2Proof.Machine.execResetNFall s
  | .upstreamReset => Sys2Proof.Machine.execUpstreamReset s
  | .upRdyRise => Sys2Proof.Machine.execUpRdyRise s
  | .downstreamDown => Sys2Proof.Machine.execDownstreamDown s
  | .downstreamUp => Sys2Proof.Machine.execDownstreamUp s
  | .take header data => Sys2Proof.Machine.execTake header data s
  | .handOver => Sys2Proof.Machine.execHandOver s
  | .grant => Sys2Proof.Machine.execGrant s
  | .downstreamCompletion header data => Sys2Proof.Machine.execDownstreamCompletion header data s
  | .responseTimeout entry => Sys2Proof.Machine.execResponseTimeout entry s
  | .boundary source => Sys2Proof.Machine.execBoundary source s
  | .headExpiry source => Sys2Proof.Machine.execHeadExpiry source s
  | .windowEnd source => Sys2Proof.Machine.execWindowEnd source s
  | .triggerPinChange line level => Sys2Proof.Machine.execTriggerPinChange line level s
  | .transitionSettles line => Sys2Proof.Machine.execTransitionSettles line s
  | .commandCut bytes => Sys2Proof.Machine.execCommandCut bytes s
  | .responseCut bytesDone => Sys2Proof.Machine.execResponseCut bytesDone s
  | .unknownOpcode opcode frame => Sys2Proof.Machine.execUnknownOpcode opcode frame s
  | .identify frame => Sys2Proof.Machine.execIdentify frame s
  | .status frame => Sys2Proof.Machine.execStatus frame s
  | .timeRead frame => Sys2Proof.Machine.execTimeRead frame s
  | .contractRead frame => Sys2Proof.Machine.execContractRead frame s
  | .contractWrite frame => Sys2Proof.Machine.execContractWrite frame s
  | .enable frame => Sys2Proof.Machine.execEnable frame s
  | .disable frame => Sys2Proof.Machine.execDisable frame s
  | .bar frame => Sys2Proof.Machine.execBar frame s
  | .unbar frame => Sys2Proof.Machine.execUnbar frame s
  | .arm frame => Sys2Proof.Machine.execArm frame s
  | .holdRead frame => Sys2Proof.Machine.execHoldRead frame s
  | .regionRead frame => Sys2Proof.Machine.execRegionRead frame s
  | .regionWrite frame => Sys2Proof.Machine.execRegionWrite frame s
  | .classRead frame => Sys2Proof.Machine.execClassRead frame s
  | .classWrite frame => Sys2Proof.Machine.execClassWrite frame s
  | .lineRead frame => Sys2Proof.Machine.execLineRead frame s
  | .lineWrite frame => Sys2Proof.Machine.execLineWrite frame s
  | .globalRead frame => Sys2Proof.Machine.execGlobalRead frame s
  | .globalWrite frame => Sys2Proof.Machine.execGlobalWrite frame s
  | .countersRead frame => Sys2Proof.Machine.execCountersRead frame s
  | .countersReadClear frame => Sys2Proof.Machine.execCountersReadClear frame s
  | .eventRead frame => Sys2Proof.Machine.execEventRead frame s
  | .eventRelease frame => Sys2Proof.Machine.execEventRelease frame s
  | .trafficReset frame => Sys2Proof.Machine.execTrafficReset frame s

end Sys2Proof.Machine
end

