-- ==== Sys2Proof/Machine/Spi.lean ====
section
/-! DEFINITION. The management port at its pins (R168 to R171, R174): bits to bytes, bytes to commands and cuts, responses to bits; and what
happens while no command waits (log 1, log 2, log 20). -/

namespace Sys2Proof.Machine

/-! ### Bits and bytes -/

/-- The byte of eight bits, the first received the most significant (R168). -/
def byteOfBits (bits : List Bool) : Byte := BitVec.ofNat 8 (bits.foldl (fun n b => 2 * n + b.toNat) 0)

/-- Bit `b` is clocked in: the eighth of a byte completes it (R168). -/
def Port.clockIn (p : Port) (b : Bool) : Port :=
  if p.bits.length = 7 then { p with bits := [], bytes := p.bytes ++ [byteOfBits (p.bits ++ [b])] }
  else { p with bits := p.bits ++ [b] }

/-! ### Pin changes -/

/-- The pins after a change, whatever the port makes of it. -/
def Port.moved (p : Port) : PortEdge → Port
  | .mcsN level => { p with mcsN := level }
  | .msck level => { p with msck := level }
  | .mdi level => { p with mdi := level }

/-- MSCK rises in a transaction: before the take MDI is sampled, and the byte that completes the command is its take; after it the
response moves on by one bit, and MDI is ignored (R168, R169). -/
def State.clockRise (s : State) : State × Option Instr :=
  match s.port.sent with
  | some n => ({ s with port := { s.port with sent := some (n + 1) } }, none)
  | none =>
    let p := s.port.clockIn (s.port.mdi = .high)
    if reachesTake p.bytes then ({ s with port := { p with bytes := [], sent := some 0 } }, decodeFrame p.bytes)
    else ({ s with port := p }, none)

/-- What the rise of MCS_N ends: before the take the command bytes received, which are a cut command if there are any (R170); after it
the response, which is cut if fewer than its M + 2 bytes have completed (R171). -/
def State.cutBy (s : State) : Option Instr :=
  match s.port.sent, s.response with
  | none, _ => if s.port.bytes.isEmpty then none else some (.commandCut s.port.bytes)
  | some _, none => none
  | some n, some r => if n / 8 < r.data.length + 2 then some (.responseCut (n / 8)) else none

/-- MCS_N rises (R168, R170, R171, R174): the transaction is over, with its cut if it is one, and so is a period that was ignored. -/
def State.deselect (s : State) : State × Option Instr :=
  if s.portIgnore then ({ s with port := s.port.cleared, portIgnore := false }, none)
  else
    match s.cutBy with
    | some c => ({ s with port := s.port.cleared }, some c)
    | none => ({ s with port := s.port.cleared, response := none }, none)

/-- What the port makes of a pin that has just changed while RESET_N is high: a fall of MCS_N starts a transaction with an empty command;
MSCK acts while MCS_N is low, in a period that is not ignored (R168, R174). -/
def State.portChanged (s : State) : PortEdge → State × Option Instr
  | .mdi _ => (s, none)
  | .mcsN .low => ({ s with port := s.port.cleared, portIgnore := false, response := none }, none)
  | .mcsN .high => s.deselect
  | .msck level =>
    if s.port.mcsN = .high ∨ s.portIgnore = true then (s, none)
    else
      match level with
      | .high => s.clockRise
      | .low => ({ s with port := { s.port with mdo := s.mdoBit s.port.sent } }, none)

/-- A pin of the management port is driven to a level: the state after it, and the take or cut that comes with it. The level it has is no
change, and while RESET_N is low only the pin moves (R174). -/
def State.portEdge (s : State) (e : PortEdge) : State × Option Instr :=
  let t := { s with port := s.port.moved e }
  if s.port.moved e = s.port ∨ s.resetN = .low then (t, none) else t.portChanged e

/-- A pin of the management port changes, and the take or cut that comes with it is taken. -/
def State.drive (s : State) (e : PortEdge) : Host.Outcome State Fault Refusal :=
  match s.portEdge e with
  | (t, some c) => exec c t
  | (t, none) => .next t

/-! ### When no command waits -/

/-- What may come next while no command waits: a pin change that the management master drives, an event of the part that is due, a
T0 tick. -/
inductive Turn where
  | edge (e : PortEdge) (rest : List PortEdge)
  | event (c : Instr)
  | tick
  deriving DecidableEq, Repr

/-- The turns that may come next: the next pin change on the management port, if one is still to be driven; and the events that are due
or, with none due, a tick (log 1, log 20). -/
def State.turns (s : State) : List Turn :=
  (match s.wire with
    | [] => []
    | e :: rest => [.edge e rest])
    ++ (if s.dueEvents = [] then [.tick] else s.dueEvents.map .event)

/-- One of several turns: the only one, or the one the free value `Config.idleChoice` picks (log 2). -/
def pickTurn (choices : Nat) : List Turn → Turn
  | [] => .tick
  | [t] => t
  | t :: u :: rest => (t :: u :: rest).getD (Config.idleChoice choices % (rest.length + 2)) t

/-- One T0 tick passes: the time base counts up by one and wraps; while RESET_N is low it holds (R87, log 1). -/
def State.tick (s : State) : State :=
  if s.resetN = .high then { s with timeBase := s.timeBase + 1 } else s

/-- A turn is taken. -/
def State.takeTurn (s : State) : Turn → Host.Outcome State Fault Refusal
  | .edge e rest => { s with wire := rest }.drive e
  | .event c => exec c s
  | .tick => .next s.tick

/-- A step that finds no command waiting. -/
def State.idle (s : State) : Host.Outcome State Fault Refusal :=
  { s with choices := s.choices + 1 }.takeTurn (pickTurn s.choices s.turns)

end Sys2Proof.Machine
end

