-- ==== Sys2Proof/Safety.lean ====
section
/-! DEFINITION. The words of the claims: the laws that the rules state of every reachable state, as decidable predicates, and names for
what a command meets (a port that takes it) and for what it leaves (a response, a request that has arrived). -/

namespace Sys2Proof.Machine

/-- R6: tickets in use equal Request Store occupancy plus ACTIVE entries plus Return Queue length, and never exceed 160. -/
abbrev State.TicketLaw (s : State) : Prop :=
  s.tickets = s.occupancy + s.activeCount + s.returnQ.length ∧ s.tickets ≤ Config.ticketPool

/-- R35 at one contract: the ceiling is legal, a staged copy's is too, and the balance does not exceed the ceiling. -/
abbrev Contract.BalanceLaw (c : Contract) : Prop :=
  c.settings.ceilingLegal = true ∧ c.balance ≤ c.settings.ceiling ∧ ∀ x ∈ c.staged, x.ceilingLegal = true

/-- R35: for every source, balance is between 0 and the source's ceiling, and the ceiling between 64 and 65535. -/
abbrev State.BalanceLaw (s : State) : Prop := ∀ src, (s.contract src).BalanceLaw

/-- R60, R61, R72 at one source: a hold list is empty outside PACED, and the balance is less than the charge of its head. -/
abbrev State.HoldLaw (s : State) : Prop :=
  ∀ src, ((s.contract src).state ≠ .paced → s.hold src = []) ∧
    ∀ r ∈ (s.hold src).head?, (s.contract src).balance < r.charge

/-- R156, R161, R162: at most 32 records; a lost count only while the queue is full; sequences that run on without a gap up to
the next sequence. -/
abbrev EventQueue.Law (q : EventQueue) : Prop :=
  q.records.length ≤ Config.eventCapacity ∧ (q.lost ≠ 0 → q.records.length = Config.eventCapacity) ∧
    ∀ i : Fin q.records.length, q.records[i].seq + BitVec.ofNat 16 (q.records.length - i.val) = q.nextSeq

abbrev State.EventLaw (s : State) : Prop := s.evq.Law

/-- R110: while DN_RDY is high as the part treats it, each class's credits plus its ACTIVE and ORPHANED entries equal its default
credit (R111: the default credit is then the one loaded); while it is low, both are zero. It speaks of a part out of reset:
while RESET_N is low the credits wait for the rise (log 5). -/
abbrev State.CreditLaw (s : State) : Prop :=
  s.resetN = .high →
    (s.dnRdy = .high → ∀ c, (s.cls c).credits + s.classEntries c = (s.cls c).defaultCredit) ∧
    (s.dnRdy = .low → (∀ c, (s.cls c).credits = 0) ∧ ∀ d, (s.entry d).isFree = true)

/-- The bins of a class added up modulo 2^32. -/
def ClassCounts.binTotal (k : ClassCounts) : Counter := k.bins.toList.sum

/-- R148, R149, R150 at one class: COMPLETIONS equals the sum of the bins modulo 2^32, the edges are legal, and the latency
extremes are in order or at their cleared values. -/
abbrev State.HistogramLaw (s : State) : Prop :=
  ∀ c, (s.clsCount c).completions = (s.clsCount c).binTotal ∧ edgesLegal (s.cls c).edges = true ∧
    ((s.clsCount c).minLatency ≤ (s.clsCount c).maxLatency ∨
      ((s.clsCount c).minLatency = 65535 ∧ (s.clsCount c).maxLatency = 0))

/-- R89 at one contract: the timer runs exactly while the source is PACED in RELOAD (measure PERIOD) or ONE_SHOT (measure
WINDOW) mode. -/
def Contract.timerAgrees (c : Contract) : Bool :=
  match c.timer with
  | .stopped => c.state ≠ .paced || c.settings.mode = .triggered
  | .running .period _ _ => c.state = .paced && c.settings.mode = .reload
  | .running .window _ _ => c.state = .paced && c.settings.mode = .oneShot

/-- R37, R89, R97 at one contract: the timer agrees with state and mode; SPENT means ONE_SHOT mode with balance 0; a staged
copy stands only in PACED, with the live mode and class. -/
abbrev Contract.TimerLaw (c : Contract) : Prop :=
  c.timerAgrees = true ∧ (c.state = .spent → c.settings.mode = .oneShot ∧ c.balance = 0) ∧
    ∀ x ∈ c.staged, c.state = .paced ∧ x.mode = c.settings.mode ∧ x.cls = c.settings.cls

/-- R37, R89, R97 for every source of a part out of reset. -/
abbrev State.TimerLaw (s : State) : Prop := s.resetN = .high → ∀ src, (s.contract src).TimerLaw

/-- R48, R61, R107: a request in a hold list is its source's; a request in a dispatch queue is in the queue of its source's
class; and a staged copy keeps that class. -/
abbrev State.ClassLaw (s : State) : Prop :=
  (∀ src, ∀ r ∈ s.hold src, r.source = src) ∧
  (∀ c, ∀ r ∈ s.queue c, (s.contract r.source).settings.cls = c) ∧
  ∀ src, ∀ x ∈ (s.contract src).staged, (s.contract src).state = .paced ∧ x.cls = (s.contract src).settings.cls

/-- Whether an entry is ACTIVE for a (source, tag) pair. -/
def Entry.answersFor (src : Fin 32) (tag : Fin 16) : Entry → Bool
  | .free => false
  | .active r => r.source = src && r.tag = tag
  | .orphaned _ => false

/-- How many live requests carry a (source, tag) pair: stored, ACTIVE, or answered and waiting on the Return Queue (R11). -/
def State.liveCount (s : State) (src : Fin 32) (tag : Fin 16) : Nat :=
  (sumFin 32 fun i => (s.hold i).countP fun r => r.source = src && r.tag = tag)
    + (sumFin 4 fun c => (s.queue c).countP fun r => r.source = src && r.tag = tag)
    + (countFin 64 fun d => (s.entry d).answersFor src tag)
    + s.returnQ.countP fun c => c.source = src && c.tag = wireTag tag

/-- R11, R140: the Live Tag Map is the set of (source, tag) pairs of live requests, and no pair has two of them. -/
abbrev State.LiveLaw (s : State) : Prop :=
  ∀ src tag, s.liveCount src tag = if s.live src tag = true then 1 else 0

/-- R100: a pending transition names the level opposite to the settled level, which is the pin's; without one, the pin of a
watched line stands at the settled level. -/
def Line.consistent (l : Line) : Bool :=
  match l.transition with
  | some (level, _) => level ≠ l.settled && l.pin = level
  | none => l.pin = l.settled

/-- R100 for every line of a part out of reset. -/
abbrev State.LineLaw (s : State) : Prop := s.resetN = .high → ∀ n, (s.line n).consistent = true

/-- R168, R170, R174 at the management port: fewer than eight bits of an incomplete byte; command bytes that have not reached the take;
nothing received, and nothing taken, while MCS_N is high or RESET_N is low; and an ignored period only while MCS_N is low. -/
abbrev State.PortLaw (s : State) : Prop :=
  s.port.bits.length < 8 ∧ reachesTake s.port.bytes = false ∧
    (s.resetN = .low ∨ s.port.mcsN = .high → s.port.bits = [] ∧ s.port.bytes = [] ∧ s.port.sent = none) ∧
    (s.resetN = .high → s.portIgnore = true → s.port.mcsN = .low)

/-- Request Store slots are named apart: no slot holds two requests (R59, R107). -/
abbrev State.SlotLaw (s : State) : Prop := (s.storedInOrder.map StoredReq.slot).Nodup

/-! ### What a command meets -/

/-- The U-port takes request `q`, of kind `k` with tag `tag`, and its three checks pass (R5, R7, R8, R9). -/
abbrev State.accepts (s : State) (q : Request) (k : Kind) (tag : Fin 16) : Prop :=
  s.resetN = .high ∧ s.upRdy = .high ∧ s.tickets < 160 ∧ q.tag = wireTag tag ∧ s.live q.source tag = false ∧
    q.kind = some k ∧ q.address.toNat % 32 = 0 ∧ q.address.toNat % 4096 + 32 * q.beats ≤ 4096 ∧
    q.data.length = match k with
      | .read => 0
      | .write => q.beats

/-! ### What a command leaves -/

/-- The state with a response under way (R169). -/
def State.answered (s : State) (opcode : Byte) (status : Status) (data : List Byte) : State :=
  { s with response := some ⟨opcode, status, data⟩ }

/-- The state once a request has reached the Admission Unit: its ticket, its pair in the Live Tag Map, and ARRIVALS (R5, R9, R62). -/
def State.arrived (s : State) (src : Fin 32) (tag : Fin 16) : State :=
  (({ s with tickets := s.tickets + 1 }).setLive src tag true).countSource src .arrivals 1

/-- The record of a request that is given a slot (R59). -/
def State.recordOf (s : State) (q : Request) (k : Kind) (tag : Fin 16) (slot : Fin 96) (charge : Nat) : StoredReq :=
  { slot := slot, kind := k, source := q.source, tag := tag, address := q.address, beats := q.beats, data := q.data,
    charge := charge, arrival := s.timeBase }

end Sys2Proof.Machine
end

