-- ==== Sys2Proof/WellFormed.lean ====
section
/-! DEFINITION. Which commands the ports can carry. The meanings are total; a command that is not well-formed is one that the
wire cannot spell. -/

namespace Sys2Proof

/-- A frame's payload is the N bytes the length byte announces, or empty for N above 48 (R168). -/
def Frame.WellFormed (f : Frame) : Bool := f.payload.length = payloadRead f.len

/-- Well-formedness of a command:
* a management command carries a well-formed frame;
* a source command's frame names that command, and a COUNTERS_READ frame's clear flag is the row's (R39, R152, log 11);
* the opcode of UNKNOWN_OPCODE names no command (R173);
* the bytes of COMMAND_CUT are at least one and do not reach a take (R170);
* RESPONSE_CUT completes at most M + 1 bytes, and the largest M is 52 (R171, R183). -/
def Instr.WellFormed : Instr → Bool
  | .powerOnReset _ => true
  | .resetNFall => true
  | .upstreamReset => true
  | .upRdyRise => true
  | .downstreamDown => true
  | .downstreamUp => true
  | .take _ _ => true
  | .handOver => true
  | .grant => true
  | .downstreamCompletion _ _ => true
  | .responseTimeout _ => true
  | .boundary _ => true
  | .headExpiry _ => true
  | .windowEnd _ => true
  | .triggerPinChange _ _ => true
  | .transitionSettles _ => true
  | .commandCut bytes => !bytes.isEmpty && !reachesTake bytes
  | .responseCut n => n ≤ 53
  | .unknownOpcode opcode f => f.WellFormed && !knownOpcode opcode
  | .identify f => f.WellFormed
  | .status f => f.WellFormed
  | .timeRead f => f.WellFormed
  | .contractRead f => f.WellFormed
  | .contractWrite f => f.WellFormed
  | .enable f => f.WellFormed && SourceCmd.ofFrame f = .enable
  | .disable f => f.WellFormed && SourceCmd.ofFrame f = .disable
  | .bar f => f.WellFormed && SourceCmd.ofFrame f = .bar
  | .unbar f => f.WellFormed && SourceCmd.ofFrame f = .unbar
  | .arm f => f.WellFormed && SourceCmd.ofFrame f = .arm
  | .holdRead f => f.WellFormed
  | .regionRead f => f.WellFormed
  | .regionWrite f => f.WellFormed
  | .classRead f => f.WellFormed
  | .classWrite f => f.WellFormed
  | .lineRead f => f.WellFormed
  | .lineWrite f => f.WellFormed
  | .globalRead f => f.WellFormed
  | .globalWrite f => f.WellFormed
  | .countersRead f => f.WellFormed && !f.clearFlag
  | .countersReadClear f => f.WellFormed && f.clearFlag
  | .eventRead f => f.WellFormed
  | .eventRelease f => f.WellFormed
  | .trafficReset f => f.WellFormed

end Sys2Proof
end

