-- ==== Sys2Proof/Certificates/Slice0/Obligations.lean ====
section
/-! DEFINITION. The statements for the provers, in the order of OBLIGATIONS.json: the step, resets and path events, requests, dispatch and
completions, timers, the management port, shared operations, and the laws that every step keeps. -/

open Sys2Proof Sys2Proof.Machine

/-! ### The step -/

/-- A step runs the command at the front of the queue on the state with the queue's rest. -/
def Obligations.StepRunsFrontCommand : Prop :=
  ∀ (c : Instr) (rest : List Instr) (s : State),
    step { s with pending := c :: rest } = exec c { s with pending := rest }

/-- With no command waiting, a step takes the next pin change of the management port that is still to be driven, or one of the events that are due or,
with none due, a T0 tick; while RESET_N is low the time base holds. Due are: the first sight of DN_RDY high, a grant while a class is eligible, the
boundaries, window ends, head expiries and response timeouts whose time is reached, and the settlings of transitions that have waited out their
filter; while RESET_N is low none is. That time passes on an empty queue only, the order among what may come next, and the waiting pin changes are
the model's choices (logs 1, 2 and 20), and so is the reading of a due time as elapsed ticks (log 13). -/
def Obligations.IdleStepTakesADueEventOrTicks : Prop :=
  (∀ s : State, s.pending = [] →
    let idle : State := { s with choices := s.choices + 1 }
    let ticked : State := { idle with timeBase := if s.resetN = .high then s.timeBase + 1 else s.timeBase }
    (s.wire = [] → s.dueEvents = [] → step s = .next ticked) ∧
    (s.wire = [] → s.dueEvents ≠ [] → ∃ c ∈ s.dueEvents, step s = exec c idle) ∧
    ∀ e rest, s.wire = e :: rest →
      step s = State.drive { idle with wire := rest } e ∨ (s.dueEvents = [] ∧ step s = .next ticked) ∨
        ∃ c ∈ s.dueEvents, step s = exec c idle) ∧
  ∀ s : State, (s.resetN = .low → s.dueEvents = []) ∧ (s.resetN = .high → ∀ c, c ∈ s.dueEvents ↔
    (c = .downstreamUp ∧ s.dnRdyPin = .high ∧ s.dnRdy = .low) ∨
    (c = .grant ∧ s.dnRdy = .high ∧ (∃ d, s.entry d = .free) ∧ ∃ k, s.queue k ≠ [] ∧ 1 ≤ (s.cls k).credits) ∨
    (∃ src start length, c = .boundary src ∧ (s.contract src).timer = .running .period start length ∧
      length ≤ (s.timeBase - start).toNat) ∨
    (∃ src start length, c = .windowEnd src ∧ (s.contract src).timer = .running .window start length ∧
      length ≤ (s.timeBase - start).toNat) ∨
    (∃ src r rest, c = .headExpiry src ∧ s.hold src = r :: rest ∧ (s.contract src).state = .paced ∧
      (s.contract src).settings.waitLimit ≠ 0 ∧ 4 * (s.contract src).settings.waitLimit ≤ (s.timeBase - r.arrival).toNat) ∨
    (∃ d r due, c = .responseTimeout d ∧ s.entry d = .active r ∧ r.due = some due ∧
      (due - r.dispatch).toNat ≤ (s.timeBase - r.dispatch).toNat) ∨
    (∃ n level seen, c = .transitionSettles n ∧ (s.line n).transition = some (level, seen) ∧
      4 * (s.line n).filter ≤ (s.timeBase - seen).toNat))

/-- Every command completes with a next state in every state, and leaves what waits to come from outside alone. That no command stops the part, and
that a command whose event cannot happen leaves the state as it is, are the model's choices (logs 17 and 3). -/
def Obligations.EveryCommandCompletes : Prop :=
  ∀ (c : Instr) (s : State), ∃ t, exec c s = .next t ∧ t.pending = s.pending ∧ t.wire = s.wire ∧ t.choices = s.choices

/-! ### Resets and path events -/

/-- What POWER_ON_RESET leaves: the power-on value of every item of the part, over the levels its input pins have; the decoder then charges each
request its length in beats, and an MCS_N-low period in progress is ignored. -/
def Obligations.PowerOnResetLeavesPowerOnValues : Prop :=
  ∀ (mcsN : Level) (s : State), ∃ t, exec (.powerOnReset mcsN) s = .next t ∧
    (t.resetN = .high ∧ t.timeBase = 0 ∧ t.dnRdy = .low ∧ t.upRdy = s.upRdy ∧ t.dnRdyPin = s.dnRdyPin) ∧
    (t.tickets = 0 ∧ t.returnQ = [] ∧ ∀ src tag, t.live src tag = false) ∧
    ((∀ i, t.region i = ⟨false, 0, 0, .paced, .w1, BitVec.allOnes 32⟩) ∧ t.globals = ⟨.rotate, .paced, .w1, 0x1FFE#13⟩) ∧
    (∀ src, t.contract src = ⟨⟨.reload, 0, 256, 0, .t1, 1000, 0, 1, 8, 0, .refuse⟩, .unpaced, 0, 0, none, .stopped⟩ ∧
      t.hold src = [] ∧ t.srcCount src = ⟨0, 0, 0, 0, 0, 0, 0, 0⟩) ∧
    (∀ c, t.queue c = [] ∧ t.cls c = ⟨8, none, 0, 0, #v[4, 16, 64, 256, 1024, 4096, 16384]⟩ ∧
      t.clsCount c = ⟨0, Vector.replicate 8 0, 65535, 0, 0, 0, 0⟩) ∧
    (t.rotation = 0 ∧ (∀ d, t.entry d = .free) ∧ t.globCounts = ⟨0, 0, 0⟩ ∧ t.evq = ⟨[], 0, 0⟩ ∧ t.alertN = .high) ∧
    (∀ n, t.line n = ⟨.rising, 0, (s.line n).pin, none, (s.line n).pin⟩) ∧
    (t.frameFault = ⟨.none, 0, 0⟩ ∧ t.response = none ∧ (t.portIgnore = true ↔ mcsN = .low) ∧
      t.port = ⟨mcsN, s.port.msck, s.port.mdi, [], [], none, .low⟩) ∧
    ∀ address src beats, t.decodeRegion address src beats = some beats

/-- While RESET_N is low a pin event moves its pin to its level and does nothing more (upstream reset, UP_RDY, DN_RDY, trigger pins, the pins of the
management port), no other command but POWER_ON_RESET does anything, and MDO is at high impedance. A fall of RESET_N abandons every live request,
completion, entry, record and transaction and holds the time base at 0 (what else a low RESET_N leaves standing until the rise is the model's
choice, log 5). -/
def Obligations.ResetNLowStopsThePart : Prop :=
  (∀ s : State, s.resetN = .low →
    exec .upstreamReset s = .next { s with upRdy := .low } ∧ exec .upRdyRise s = .next { s with upRdy := .high } ∧
    exec .downstreamDown s = .next { s with dnRdyPin := .low } ∧ exec .downstreamUp s = .next { s with dnRdyPin := .high } ∧
    (∀ n level, exec (.triggerPinChange n level) s = .next (s.setLine n { s.line n with pin := level })) ∧
    (∀ level, s.drive (.mcsN level) = .next { s with port := { s.port with mcsN := level } } ∧
      s.drive (.msck level) = .next { s with port := { s.port with msck := level } } ∧
      s.drive (.mdi level) = .next { s with port := { s.port with mdi := level } }) ∧
    s.mdo = none ∧
    ∀ c, c ∉ [Instr.powerOnReset .low, .powerOnReset .high, .upstreamReset, .upRdyRise, .downstreamDown, .downstreamUp] →
      (∀ n level, c ≠ .triggerPinChange n level) → exec c s = .next s) ∧
  ∀ s : State, s.resetN = .high → ∃ t, exec .resetNFall s = .next t ∧
    t.resetN = .low ∧ t.timeBase = 0 ∧ t.tickets = 0 ∧ (∀ src tag, t.live src tag = false) ∧ t.returnQ = [] ∧
    t.offered = none ∧ t.occupancy = 0 ∧ (∀ d, t.entry d = .free) ∧ t.evq.records = [] ∧ t.evq.lost = 0 ∧
    t.alertN = .high ∧ t.response = none ∧ t.port = ⟨s.port.mcsN, s.port.msck, s.port.mdi, [], [], none, .low⟩ ∧
    t.frameFault = s.frameFault ∧ ∀ src, (t.contract src).timer = .stopped

/-- UPSTREAM_RESET: everything on the upstream side is discarded without a completion, ACTIVE entries become ORPHANED, and the event carries
the slots discarded and the entries orphaned; all else stands. -/
def Obligations.UpstreamResetDiscards : Prop :=
  ∀ s : State, s.resetN = .high → s.upRdy = .high → ∃ t, exec .upstreamReset s = .next t ∧
    t = { s with
      upRdy := .low, tickets := 0, returnQ := [], liveTags := t.liveTags, holds := t.holds, queues := t.queues,
      entries := t.entries, evq := (s.raise (.upstreamReset s.occupancy s.activeCount)).evq } ∧
    (∀ src tag, t.live src tag = false) ∧ (∀ src, t.hold src = []) ∧ (∀ c, t.queue c = []) ∧
    (∀ d, t.entry d = match s.entry d with
      | .free => .free
      | .active r => .orphaned { r with due := none }
      | .orphaned r => .orphaned r) ∧
    t.occupancy = 0 ∧ t.activeCount = 0 ∧ ∀ header data, exec (.take header data) t = .next t

/-- UP_RDY_RISE: the U-port takes and offers again, and nothing else changes. A presented request stays untaken while RESET_N or UP_RDY is low or no
ticket is free. -/
def Obligations.UPortIsOpenWithUpRdy : Prop :=
  (∀ s : State, ∃ t, exec .upRdyRise s = .next t ∧ t = { s with upRdy := .high } ∧
    (t.canTake = true ↔ s.resetN = .high ∧ s.tickets < 160) ∧
    t.offered = if s.resetN = .high then s.returnQ.head? else none) ∧
  ∀ (header : BitVec 64) (data : List Beat) (s : State),
    s.resetN = .low ∨ s.upRdy = .low ∨ 160 ≤ s.tickets → exec (.take header data) s = .next s

/-- DOWNSTREAM_DOWN: the ACTIVE entries are answered ABORTED by ascending index, every entry becomes FREE, every credit count becomes 0, the
event carries both numbers, and no grant follows; all else stands, default and staged credits and the dispatch queues included. -/
def Obligations.DownstreamDownAbortsAndFrees : Prop :=
  ∀ s : State, s.resetN = .high → s.dnRdy = .high → ∃ t, exec .downstreamDown s = .next t ∧
    t = { s with
      dnRdyPin := .low, dnRdy := .low, entries := t.entries, classes := t.classes,
      returnQ := s.returnQ ++ (List.finRange 64).filterMap (fun d =>
        match s.entry d with
        | .active r => some ⟨r.source, wireTag r.tag, .aborted, []⟩
        | .free => none
        | .orphaned _ => none),
      evq := (s.raise (.downstreamDown s.activeCount s.orphanCount)).evq } ∧
    (∀ d, t.entry d = .free) ∧ (∀ c, t.cls c = { s.cls c with credits := 0 }) ∧ exec .grant t = .next t

/-- DOWNSTREAM_UP: each staged default credit is applied, each credit count becomes the default credit, and the event carries their sum. -/
def Obligations.DownstreamUpLoadsCredits : Prop :=
  ∀ s : State, s.resetN = .high → s.dnRdy = .low → ∃ t, exec .downstreamUp s = .next t ∧
    t = { s with
      dnRdyPin := .high, dnRdy := .high, classes := t.classes,
      evq := (s.raise (.downstreamUp ((t.cls 0).credits + (t.cls 1).credits + (t.cls 2).credits + (t.cls 3).credits))).evq } ∧
    ∀ c, t.cls c = { s.cls c with
      defaultCredit := (t.cls c).defaultCredit, stagedCredit := none, credits := (t.cls c).defaultCredit } ∧
      (t.cls c).defaultCredit = match (s.cls c).stagedCredit with
        | none => (s.cls c).defaultCredit
        | some x => x

/-! ### Requests and completions at the U-port -/

/-- TAKE of a request with a tag above 15, or of one with a new tag that breaks a rule of form: a completion REFUSED with MALFORMED, the MALFORMED
counter, the REFUSAL event; a tag 0..15 becomes live, and nothing else changes. -/
def Obligations.TakeRefusesMalformed : Prop :=
  ∀ (header : BitVec 64) (data : List Beat) (s : State),
    let q := Request.ofMessage header data
    s.resetN = .high → s.upRdy = .high → s.tickets < 160 →
    (16 ≤ q.tag.val ∨ ∃ tag, q.tag = wireTag tag ∧ s.live q.source tag = false ∧
      (q.kind = none ∨ q.address.toNat % 32 ≠ 0 ∨ 4096 < q.address.toNat % 4096 + 32 * q.beats ∨
        (q.kind = some .read ∧ q.data ≠ []) ∨ (q.kind = some .write ∧ q.data.length ≠ q.beats))) →
    ∃ t, exec (.take header data) s = .next t ∧
      t = (({ s with
        tickets := s.tickets + 1, liveTags := t.liveTags,
        returnQ := s.returnQ ++ [⟨q.source, q.tag, .refused .malformed, []⟩] } : State).countGlobal .malformed).raise
          (.refusal q.source q.tag .malformed) ∧
      ∀ src tag, t.live src tag = (s.live src tag || decide (src = q.source ∧ wireTag tag = q.tag))

/-- TAKE of a request whose pair (source, tag) is live: it is dropped, its ticket freed, DUPLICATES counts it and DUPLICATE_TAG is raised; the
request has no completion and the Live Tag Map stands, whatever its form. -/
def Obligations.TakeDropsDuplicate : Prop :=
  ∀ (header : BitVec 64) (data : List Beat) (s : State) (tag : Fin 16),
    let q := Request.ofMessage header data
    s.resetN = .high → s.upRdy = .high → s.tickets < 160 → q.tag = wireTag tag → s.live q.source tag = true →
    exec (.take header data) s = .next ((s.countGlobal .duplicates).raise (.duplicateTag q.source tag))

/-- TAKE, steps 1 to 4 of the arrival decision, in their order: BLOCKED, BARRED, SPENT, STORE_FULL. ARRIVALS counts first; then the completion,
REFUSED_COUNT and REFUSAL. -/
def Obligations.TakeRefusesAtArrival : Prop :=
  ∀ (header : BitVec 64) (data : List Beat) (s : State) (k : Kind) (tag : Fin 16) (reason : Reason),
    let q := Request.ofMessage header data
    let decision := s.decodeRegion q.address q.source q.beats
    let state := (s.contract q.source).state
    s.accepts q k tag →
    (reason = .blocked ∧ decision = none ∨
      reason = .barred ∧ decision ≠ none ∧ state = .barred ∨
      reason = .spent ∧ decision ≠ none ∧ state = .spent ∨
      reason = .storeFull ∧ decision ≠ none ∧ state ≠ .barred ∧ state ≠ .spent ∧ ∀ i, s.slotState i ≠ .free) →
    exec (.take header data) s = .next
      ((({ s.arrived q.source tag with
          returnQ := s.returnQ ++ [⟨q.source, wireTag tag, .refused reason, []⟩] } : State).countSource q.source .refusedCount
            1).raise (.refusal q.source (wireTag tag) reason))

/-- TAKE of a request that is queued at once, in the lowest FREE slot with its charge recorded: for an UNPACED source uncharged, counted in FREE_BEATS; for
a PACED source with an empty hold list and a balance that covers the charge, the balance pays and CHARGED_BEATS counts the charge, or FREE_BEATS
the beats of a request of charge 0. -/
def Obligations.TakeQueuesAtOnce : Prop :=
  ∀ (header : BitVec 64) (data : List Beat) (s : State) (k : Kind) (tag : Fin 16) (slot : Fin 96) (charge : Nat),
    let q := Request.ofMessage header data
    let old := s.contract q.source
    let c := old.settings.cls
    let queued := (s.arrived q.source tag).setQueue c (s.queue c ++ [s.recordOf q k tag slot charge])
    let paid := queued.setContract q.source { old with balance := old.balance - charge }
    s.accepts q k tag → s.decodeRegion q.address q.source q.beats = some charge →
    s.slotState slot = .free → (∀ i < slot, s.slotState i ≠ .free) →
    (old.state = .unpaced →
      exec (.take header data) s = .next (queued.countSource q.source .freeBeats q.beats)) ∧
    (old.state = .paced → s.hold q.source = [] → charge ≤ old.balance →
      (charge ≠ 0 → exec (.take header data) s = .next (paid.countSource q.source .chargedBeats charge)) ∧
      (charge = 0 → exec (.take header data) s = .next (queued.countSource q.source .freeBeats q.beats)))

/-- TAKE for a PACED source whose list is not empty or whose balance does not cover the charge: below the hold limit the request joins the tail
of the hold list (HELD_COUNT, MAX_HOLD_DEPTH, and HOLD_START for a new head), and at the limit it is refused HOLD_FULL. The balance stands. -/
def Obligations.TakeHoldsOrRefusesHoldFull : Prop :=
  ∀ (header : BitVec 64) (data : List Beat) (s : State) (k : Kind) (tag : Fin 16) (slot : Fin 96) (charge : Nat),
    let q := Request.ofMessage header data
    let old := s.contract q.source
    let list := s.hold q.source
    let held := ((s.arrived q.source tag).setHold q.source (list ++ [s.recordOf q k tag slot charge])).countSource q.source
      .heldCount 1
    let marked := held.setSrcCount q.source { held.srcCount q.source with
      maxHoldDepth := max (held.srcCount q.source).maxHoldDepth (list.length + 1) }
    s.accepts q k tag → s.decodeRegion q.address q.source q.beats = some charge →
    old.state = .paced → (list ≠ [] ∨ old.balance < charge) →
    s.slotState slot = .free → (∀ i < slot, s.slotState i ≠ .free) →
    (list.length < old.settings.holdLimit → exec (.take header data) s = .next
      (if list = [] then marked.raise (.holdStart q.source tag) else marked)) ∧
    (old.settings.holdLimit ≤ list.length → exec (.take header data) s = .next
      ((({ s.arrived q.source tag with
          returnQ := s.returnQ ++ [⟨q.source, wireTag tag, .refused .holdFull, []⟩] } : State).countSource q.source .refusedCount
            1).raise (.refusal q.source (wireTag tag) .holdFull)))

/-- HAND_OVER: while RESET_N and UP_RDY are high the head of the Return Queue is offered, and its hand-over takes it off the queue, frees its
ticket and, for a tag 0..15, removes its pair from the Live Tag Map; then the next entry is offered. With nothing offered nothing happens. -/
def Obligations.HandOverDeliversTheHead : Prop :=
  (∀ (s : State) (c : Completion) (rest : List Completion), s.resetN = .high → s.upRdy = .high → s.returnQ = c :: rest →
    s.offered = some c ∧ ∃ t, exec .handOver s = .next t ∧
      t = { s with returnQ := rest, tickets := s.tickets - 1, liveTags := t.liveTags, ulCpl := some c } ∧
      (∀ src tag, t.live src tag = (s.live src tag && !decide (src = c.source ∧ wireTag tag = c.tag))) ∧
      t.offered = rest.head?) ∧
  ∀ s : State, s.resetN = .low ∨ s.upRdy = .low ∨ s.returnQ = [] → s.offered = none ∧ exec .handOver s = .next s

/-! ### The region decision -/

/-- The region decision: the covering entry with the lowest index gives action and weight, and the unmatched settings where none covers; PACED
charges beats × weight, FREE charges 0, BLOCKED refuses. -/
def Obligations.RegionDecisionTakesLowestCover : Prop :=
  ∀ (s : State) (address : Address) (src : Fin 32) (beats : Nat),
    let covers := fun i : Fin 16 => (s.region i).valid = true ∧ (s.region i).base ≤ address.toNat / 4096 ∧
      address.toNat / 4096 ≤ (s.region i).limit ∧ (s.region i).mask.getLsbD src = true
    let charge := fun (a : RegionAction) (w : Weight) =>
      match a with
      | .paced => some (beats * match w with
        | .w1 => 1
        | .w2 => 2
        | .w4 => 4)
      | .free => some 0
      | .blocked => none
    (∀ i, covers i → (∀ j < i, ¬ covers j) →
      s.decodeRegion address src beats = charge (s.region i).action (s.region i).weight) ∧
    ((∀ i, ¬ covers i) →
      s.decodeRegion address src beats = charge s.globals.unmatchedAction s.globals.unmatchedWeight)

/-! ### Dispatch -/

/-- Which class the arbiter grants: an eligible one (a queued request, a credit, a FREE entry, DN_RDY and RESET_N high), under ROTATE the first one
from the rotation pointer upward and under STRICT the lowest; and none only when no class is eligible, in which case GRANT does nothing. -/
def Obligations.ArbiterGrantsByPolicy : Prop :=
  ∀ s : State,
    let eligible := fun c : Fin 4 => s.queue c ≠ [] ∧ 1 ≤ (s.cls c).credits ∧ (∃ d, s.entry d = .free) ∧ s.dnRdy = .high ∧
      s.resetN = .high
    (∀ c, s.eligible c = true ↔ eligible c) ∧
    (s.globals.policy = .rotate → ∀ k : Fin 4, eligible (s.rotation + k) → (∀ j < k, ¬ eligible (s.rotation + j)) →
      s.winner = some (s.rotation + k)) ∧
    (s.globals.policy = .strict → ∀ c, eligible c → (∀ j < c, ¬ eligible j) → s.winner = some c) ∧
    ((∀ c, ¬ eligible c) → s.winner = none ∧ exec .grant s = .next s)

/-- GRANT to class `c`: the head of its queue leaves, the lowest FREE entry becomes ACTIVE with the request's fields and the dispatch time, a credit
is spent, the request is sent with the entry's index as its tag, a response timer is set unless the limit is 0, the rotation pointer goes one
above `c`, and the ticket passes to the entry. -/
def Obligations.GrantSendsTheHead : Prop :=
  ∀ (s : State) (c : Fin 4) (r : StoredReq) (rest : List StoredReq) (d : Fin 64),
    s.winner = some c → s.queue c = r :: rest → s.entry d = .free → (∀ e < d, s.entry e ≠ .free) →
    exec .grant s = .next
      { ((s.setQueue c rest).setEntry d (.active
          { source := r.source, tag := r.tag, cls := c, kind := r.kind, beats := r.beats, arrival := r.arrival,
            dispatch := s.timeBase,
            due := if (s.cls c).responseLimit = 0 then none
              else some (s.timeBase + BitVec.ofNat 32 (4 * (s.cls c).responseLimit)) })).setClass c
          { s.cls c with credits := (s.cls c).credits - 1 } with
        dlReq := some { kind := r.kind, source := r.source, tag := d, address := r.address, beats := r.beats, data := r.data }
        rotation := c + 1 }

/-! ### Downstream completions -/

/-- DOWNSTREAM_COMPLETION for an ACTIVE entry: the upstream completion (OK with data for a READ of the right length, OK for a WRITE, MEM_ERROR for the
rest), the credit, the entry FREE, and then the measurement: COMPLETIONS, the bin of the saturated latency, its extremes, the residence, and
MEM_ERRORS. -/
def Obligations.CompletionAnswersActiveEntry : Prop :=
  ∀ (header : BitVec 32) (data : List Beat) (s : State) (r : Outstanding),
    let m := DCompletion.ofMessage header data
    let c := r.cls
    let good := m.isOk = true ∧ (r.kind = .read → data.length = r.beats)
    let answer : Completion := ⟨r.source, wireTag r.tag, if good then .ok else .memError,
      if good ∧ r.kind = .read then data else []⟩
    let latency := min (s.timeBase - r.dispatch).toNat 65535
    let s1 := (({ s with returnQ := s.returnQ ++ [answer] } : State).setClass c { s.cls c with credits := (s.cls c).credits + 1 }).setEntry
      m.tag .free
    let s2 := (s1.countClass c .completions).countClass c (.bin (binOf (s.cls c).edges latency))
    let s3 := s2.setClsCount c { s2.clsCount c with
      minLatency := min (s.clsCount c).minLatency latency, maxLatency := max (s.clsCount c).maxLatency latency }
    let s4 := s3.setSrcCount r.source { s.srcCount r.source with
      maxResidence := BitVec.ofNat 32 (max (s.srcCount r.source).maxResidence.toNat (s.timeBase - r.arrival).toNat) }
    s.resetN = .high → s.entry m.tag = .active r →
    exec (.downstreamCompletion header data) s = .next (if good then s4 else s4.countClass c .memErrors)

/-- DOWNSTREAM_COMPLETION for an ORPHANED entry is late: no upstream completion, the credit returned, the entry FREE, LATE counted, LATE_COMPLETION
raised. For a FREE entry it is stray: STRAY counted, STRAY_COMPLETION raised with neither source nor class. Neither is measured, and while RESET_N
is low a completion is discarded uncounted. -/
def Obligations.CompletionIsLateOrStray : Prop :=
  ∀ (header : BitVec 32) (data : List Beat) (s : State),
    let m := DCompletion.ofMessage header data
    (∀ r, s.resetN = .high → s.entry m.tag = .orphaned r →
      exec (.downstreamCompletion header data) s = .next
        ((((s.setClass r.cls { s.cls r.cls with credits := (s.cls r.cls).credits + 1 }).setEntry m.tag .free).countClass r.cls
          .late).raise (.lateCompletion r.source r.cls m.tag))) ∧
    (s.resetN = .high → s.entry m.tag = .free →
      exec (.downstreamCompletion header data) s = .next ((s.countGlobal .stray).raise (.strayCompletion m.tag)) ∧
      (Event.strayCompletion m.tag).source? = none ∧ (Event.strayCompletion m.tag).class? = none) ∧
    (s.resetN = .low → exec (.downstreamCompletion header data) s = .next s)

/-- RESPONSE_TIMEOUT of an ACTIVE entry whose due time is reached: a completion TIMEOUT, the entry ORPHANED with its due time cleared and its credit
kept, TIMEOUTS counted, RESPONSE_TIMEOUT raised. For any other entry the event does not happen. -/
def Obligations.ResponseTimeoutOrphansEntry : Prop :=
  ∀ (d : Fin 64) (s : State), s.resetN = .high →
    (∀ (r : Outstanding) (due : Time), s.entry d = .active r → r.due = some due →
      (due - r.dispatch).toNat ≤ (s.timeBase - r.dispatch).toNat →
      exec (.responseTimeout d) s = .next
        (((({ s with returnQ := s.returnQ ++ [⟨r.source, wireTag r.tag, .timeout, []⟩] } : State).setEntry d
          (.orphaned { r with due := none })).countClass r.cls .timeouts).raise
            (.responseTimeout r.source r.cls r.tag d))) ∧
    ((∀ r due, s.entry d = .active r → r.due = some due →
      (s.timeBase - r.dispatch).toNat < (due - r.dispatch).toNat) → exec (.responseTimeout d) s = .next s)

/-- The bin of a latency: with ascending edges E1..E7 (at indexes 0..6), BIN0 below E1, BIN`b` from E`b` up to E`b+1`, BIN7 from E7 on. -/
def Obligations.LatencyFallsInItsBin : Prop :=
  ∀ (e : Vector Nat 7) (latency : Nat), (∀ i j : Fin 7, i < j → e[i] < e[j]) →
    (binOf e latency = 0 ↔ latency < e[0]) ∧
    (∀ i j : Fin 7, j.val = i.val + 1 → (binOf e latency = j.castSucc ↔ e[i] ≤ latency ∧ latency < e[j])) ∧
    (binOf e latency = 7 ↔ e[6] ≤ latency)

/-! ### Timers, hold lists and trigger lines -/

/-- BOUNDARY of a RELOAD period that has reached its due time: the staged copy is applied, the balance becomes the smaller of balance + budget and the
ceiling, the next period starts at the due time with the length read now, and the list is drained and its head checked. One that is not due
does not happen. -/
def Obligations.BoundaryRefillsAndDrains : Prop :=
  ∀ (src : Fin 32) (s : State), s.resetN = .high →
    (∀ (start : Time) (length : Nat), (s.contract src).timer = .running .period start length →
      length ≤ (s.timeBase - start).toNat →
      let a := s.applyStaged src
      let c := a.contract src
      exec (.boundary src) s = .next ((a.setContract src { c with
        balance := min (c.balance + c.settings.budget) (c.settings.budget + c.settings.carry)
        timer := .running .period (start + BitVec.ofNat 32 length)
          (c.settings.periodCount * match c.settings.tickBase with
            | .t0 => 1
            | .t1 => 4
            | .t2 => 16
            | .t3 => 64) }).drainAndCheck src)) ∧
    ((∀ start length, (s.contract src).timer = .running .period start length → (s.timeBase - start).toNat < length) →
      exec (.boundary src) s = .next s)

/-- WINDOW_END of a window that has reached its due time: the timer stops, the staged copy is applied, the balance becomes 0, the held requests are
refused SPENT oldest first, the source becomes SPENT and WINDOW_CLOSED carries their number. One that is not due does not happen. -/
def Obligations.WindowEndSpends : Prop :=
  ∀ (src : Fin 32) (s : State), s.resetN = .high →
    (∀ (start : Time) (length : Nat), (s.contract src).timer = .running .window start length →
      length ≤ (s.timeBase - start).toNat →
      let a := (s.setContract src { s.contract src with timer := .stopped }).applyStaged src
      let spent := ((a.setHold src []).refuseList .spent (s.hold src)).setContract src
        { a.contract src with balance := 0, state := .spent }
      exec (.windowEnd src) s = .next (spent.raise (.windowClosed src (s.hold src).length))) ∧
    ((∀ start length, (s.contract src).timer = .running .window start length → (s.timeBase - start).toNat < length) →
      exec (.windowEnd src) s = .next s)

/-- HEAD_EXPIRY of a head whose age has reached the wait limit: it leaves the list, WAIT_EXPIRED is raised, and it is refused WAIT_EXPIRED or
forced into its class queue uncharged with FORCED_BEATS, by the wait action; then the drain runs and the new head is checked. A head below its
limit, a limit of 0, a source that is not PACED and an empty list give no expiry. -/
def Obligations.HeadExpiryRefusesOrForces : Prop :=
  ∀ (src : Fin 32) (s : State), s.resetN = .high →
    (∀ (r : StoredReq) (rest : List StoredReq),
      let x := (s.contract src).settings
      let left := s.setHold src rest
      s.hold src = r :: rest → (s.contract src).state = .paced → x.waitLimit ≠ 0 →
      4 * x.waitLimit ≤ (s.timeBase - r.arrival).toNat →
      exec (.headExpiry src) s = .next
        (match x.waitAction with
        | .refuse => ((left.raise (.waitExpired src r.tag .refuse)).refuse r.source r.tag .waitExpired).drainAndCheck src
        | .force => (((left.raise (.waitExpired src r.tag .force)).setQueue x.cls (s.queue x.cls ++ [r])).countSource src
            .forcedBeats r.charge).drainAndCheck src)) ∧
    ((s.hold src = [] ∨ (s.contract src).state ≠ .paced ∨ (s.contract src).settings.waitLimit = 0 ∨
      ∃ r rest, s.hold src = r :: rest ∧ (s.timeBase - r.arrival).toNat < 4 * (s.contract src).settings.waitLimit) →
      exec (.headExpiry src) s = .next s)

/-- The drain: as long as the balance covers the charge of the head, the head leaves the list for the tail of the class queue, the balance pays, and
CHARGED_BEATS counts the charge, or FREE_BEATS the beats of a request of charge 0; so the oldest requests move in order up to the first head that is
not covered. Other sources' contracts, lists and counts and other classes' queues stand, and nothing changes but contracts, lists, queues, counts
and the event queue. The head check that follows expires a head that has reached its limit, as a head expiry does, with a drain and a head check
after it, and else does nothing; so in the end no head of a PACED source with a wait limit has reached it. -/
def Obligations.DrainMovesCoveredHeadsAndChecksTheNext : Prop :=
  (∀ (s : State) (src : Fin 32),
    (s.hold src = [] → s.drain src = s) ∧
    ∀ r rest, s.hold src = r :: rest →
      let k := s.contract src
      let paid := ((s.setHold src rest).setContract src { k with balance := k.balance - r.charge }).setQueue k.settings.cls
        (s.queue k.settings.cls ++ [r])
      (k.balance < r.charge → s.drain src = s) ∧
      (r.charge ≤ k.balance → r.charge ≠ 0 → s.drain src = (paid.countSource src .chargedBeats r.charge).drain src) ∧
      (r.charge = 0 → s.drain src = (paid.countSource src .freeBeats r.beats).drain src)) ∧
  (∀ (s : State) (src : Fin 32), ∃ k ≤ (s.hold src).length,
    let moved := (s.hold src).take k
    let paid := (moved.map StoredReq.charge).sum
    let c := (s.contract src).settings.cls
    let t := s.drain src
    paid ≤ (s.contract src).balance ∧
    (∀ r ∈ ((s.hold src).drop k).head?, (s.contract src).balance - paid < r.charge) ∧
    (t.contract src = { s.contract src with balance := (s.contract src).balance - paid } ∧
      ∀ i, i ≠ src → t.contract i = s.contract i) ∧
    (t.hold src = (s.hold src).drop k ∧ ∀ i, i ≠ src → t.hold i = s.hold i) ∧
    (t.queue c = s.queue c ++ moved ∧ ∀ i, i ≠ c → t.queue i = s.queue i) ∧
    (t.srcCount src = { s.srcCount src with
        chargedBeats := (s.srcCount src).chargedBeats + BitVec.ofNat 32 paid
        freeBeats := (s.srcCount src).freeBeats
          + BitVec.ofNat 32 ((moved.filter fun r => r.charge = 0).map StoredReq.beats).sum } ∧
      ∀ i, i ≠ src → t.srcCount i = s.srcCount i) ∧
    t = { s with contracts := t.contracts, holds := t.holds, queues := t.queues, srcCounts := t.srcCounts, evq := t.evq }) ∧
  ∀ (s : State) (src : Fin 32),
    let d := s.drain src
    let x := (d.contract src).settings
    let expired := fun r : StoredReq => (d.contract src).state = .paced ∧ x.waitLimit ≠ 0 ∧
      4 * x.waitLimit ≤ (d.timeBase - r.arrival).toNat
    ((∀ r ∈ (d.hold src).head?, ¬ expired r) → s.drainAndCheck src = d) ∧
    (∀ r rest, d.hold src = r :: rest → expired r →
      let left := d.setHold src rest
      s.drainAndCheck src =
        match x.waitAction with
        | .refuse => ((left.raise (.waitExpired src r.tag .refuse)).refuse r.source r.tag .waitExpired).drainAndCheck src
        | .force => (((left.raise (.waitExpired src r.tag .force)).setQueue x.cls (d.queue x.cls ++ [r])).countSource src
            .forcedBeats r.charge).drainAndCheck src) ∧
    let t := s.drainAndCheck src
    ((t.contract src).state = .paced → (t.contract src).settings.waitLimit ≠ 0 →
      ∀ r ∈ (t.hold src).head?, (t.timeBase - r.arrival).toNat < 4 * (t.contract src).settings.waitLimit)

/-- TRIGGER_PIN_CHANGE to a new level: back to the settled level it drops a pending transition; away from it, it settles at once under filter 0 and
is else recorded with the time it is seen. TRANSITION_SETTLES settles a pending transition that has waited out its filter, and gives nothing where
none is pending or due. A settling makes the level the settled one, and is a qualifying edge as the edge setting says. -/
def Obligations.PinChangeSettlesAfterTheFilter : Prop :=
  ∀ (n : Fin 4) (s : State), s.resetN = .high →
    let l := s.line n
    let qualifies := fun level : Level => l.edge = .both ∨ (l.edge = .rising ∧ level = .high) ∨ (l.edge = .falling ∧ level = .low)
    (∀ level : Level,
      (l.pin = level → exec (.triggerPinChange n level) s = .next s) ∧
      (l.pin ≠ level → l.settled = level →
        exec (.triggerPinChange n level) s = .next (s.setLine n { l with pin := level, transition := none })) ∧
      (l.pin ≠ level → l.settled ≠ level → l.filter ≠ 0 → exec (.triggerPinChange n level) s = .next
        (s.setLine n { l with pin := level, transition := some (level, s.timeBase) })) ∧
      (l.pin ≠ level → l.settled ≠ level → l.filter = 0 →
        let settled := s.setLine n { l with pin := level, settled := level, transition := none }
        (qualifies level → exec (.triggerPinChange n level) s = .next (settled.qualifyingEdge n)) ∧
        (¬ qualifies level → exec (.triggerPinChange n level) s = .next settled))) ∧
    (∀ (level : Level) (seen : Time), l.transition = some (level, seen) → 4 * l.filter ≤ (s.timeBase - seen).toNat →
      let settled := s.setLine n { l with settled := level, transition := none }
      (qualifies level → exec (.transitionSettles n) s = .next (settled.qualifyingEdge n)) ∧
      (¬ qualifies level → exec (.transitionSettles n) s = .next settled)) ∧
    ((∀ level seen, l.transition = some (level, seen) → (s.timeBase - seen).toNat < 4 * l.filter) →
      exec (.transitionSettles n) s = .next s)

/-- A qualifying edge on line `n` acts at every source in ascending order: one that is PACED, TRIGGERED and bound to the line counts it, and takes a
boundary where the count reaches edges per refill (the staged copy applied, the balance refilled to the ceiling, the edge count 0, then the drain with
its head check); any other source is passed by. So an unbound source's contract and hold list stand, and at a bound one with an empty list the
boundary leaves the refilled balance. The timer of a TRIGGERED contract is stopped (the law StepKeepsTimerAndLineLaws states). -/
def Obligations.QualifyingEdgeCountsBoundSources : Prop :=
  ∀ (s : State) (n : Fin 4),
    let bound := fun c : Contract => c.state = .paced ∧ c.settings.mode = .triggered ∧ c.settings.triggerLine = n
    ((∀ src, bound (s.contract src) → (s.contract src).timer = .stopped) →
      s.qualifyingEdge n = (List.finRange 32).foldl (fun (u : State) (src : Fin 32) =>
        let c := u.contract src
        let counted := u.setContract src { c with edgeCount := c.edgeCount + 1 }
        let a := counted.applyStaged src
        let k := a.contract src
        if c.state = .paced ∧ c.settings.mode = .triggered ∧ c.settings.triggerLine = n then
          if c.edgeCount + 1 = c.settings.edgesPerRefill then
            (a.setContract src { k with
              balance := min (k.balance + k.settings.budget) (k.settings.budget + k.settings.carry)
              edgeCount := 0 }).drainAndCheck src
          else counted
        else u) s) ∧
    ∀ src : Fin 32,
      let c := s.contract src
      let t := s.qualifyingEdge n
      let live := c.staged.getD c.settings
      let clipped := match c.staged with
        | none => c.balance
        | some x => min c.balance (x.budget + x.carry)
      (¬ bound c → t.contract src = c ∧ t.hold src = s.hold src) ∧
      (bound c → c.edgeCount + 1 ≠ c.settings.edgesPerRefill →
        t.contract src = { c with edgeCount := c.edgeCount + 1 } ∧ t.hold src = s.hold src) ∧
      (bound c → c.edgeCount + 1 = c.settings.edgesPerRefill → c.timer = .stopped →
        (t.contract src).edgeCount = 0 ∧ (t.contract src).staged = none ∧ (t.contract src).settings = live ∧
        (t.contract src).state = .paced ∧
        (s.hold src = [] → (t.contract src).balance = min (clipped + live.budget) (live.budget + live.carry)))

/-! ### The management port -/

/-- COMMAND_CUT before the take changes nothing but the last frame fault (and the part drives no response); RESPONSE_CUT during a response leaves the
command's effect and records how many response bytes completed. A fall of MCS_N starts a transaction with an empty command; a rise ends it: with no
complete byte, or after the whole response, it is no fault, and else the cut. A port that does not listen takes no command and no cut, and the rise of
MCS_N that ends a period to be ignored makes it listen. How rows of the table meet such a period, and how long a response stands, are the model's
readings (logs 7 and 9). -/
def Obligations.CutsSetTheFrameFault : Prop :=
  (∀ (opcode : Byte) (rest : List Byte) (s : State), s.listening → reachesTake (opcode :: rest) = false →
    exec (.commandCut (opcode :: rest)) s = .next
      { s with response := none, frameFault := ⟨.commandCut, opcode, rest.length + 1⟩ }) ∧
  (∀ (done : Nat) (r : Response) (s : State), s.listening → s.response = some r → done < r.data.length + 2 →
    exec (.responseCut done) s = .next { s with response := none, frameFault := ⟨.responseCut, r.opcode, done⟩ }) ∧
  (∀ s : State, ¬ (s.resetN = .high ∧ s.portIgnore = false) →
    (∀ bytes done, exec (.commandCut bytes) s = .next s ∧ exec (.responseCut done) s = .next s) ∧
    ∀ i : Instr, i.opcode? ≠ none → exec i s = .next s) ∧
  (∀ s : State, s.resetN = .high → s.port.mcsN = .high →
    s.drive (.mcsN .low) = .next { s with
      port := ⟨.low, s.port.msck, s.port.mdi, [], [], none, .low⟩, response := none, portIgnore := false }) ∧
  ∀ s : State, s.resetN = .high → s.port.mcsN = .low →
    let ended : State := { s with port := ⟨.high, s.port.msck, s.port.mdi, [], [], none, .low⟩ }
    (s.portIgnore = true → s.drive (.mcsN .high) = .next { ended with portIgnore := false }) ∧
    (s.portIgnore = false →
      (s.port.sent = none → s.port.bytes = [] → s.drive (.mcsN .high) = .next { ended with response := none }) ∧
      (∀ opcode rest, s.port.sent = none → s.port.bytes = opcode :: rest → reachesTake (opcode :: rest) = false →
        s.drive (.mcsN .high) = .next
          { ended with response := none, frameFault := ⟨.commandCut, opcode, rest.length + 1⟩ }) ∧
      ∀ n r, s.port.sent = some n → s.response = some r →
        (n / 8 < r.data.length + 2 → s.drive (.mcsN .high) = .next
          { ended with response := none, frameFault := ⟨.responseCut, r.opcode, n / 8⟩ }) ∧
        (r.data.length + 2 ≤ n / 8 → s.drive (.mcsN .high) = .next { ended with response := none }))

/-- A management command that is refused (any status but OK and STAGED) returns no data and changes nothing; an unknown opcode is answered BAD_OPCODE
whatever the frame, and a length byte above 48 BAD_LENGTH whatever the index. -/
def Obligations.RefusedManagementCommandChangesNothing : Prop :=
  (∀ (i : Instr) (opcode : Byte) (s t : State) (r : Response), s.listening → i.opcode? = some opcode →
    exec i s = .next t → t.response = some r → r.status ≠ .ok → r.status ≠ .staged →
    t = s.answered opcode r.status []) ∧
  (∀ (opcode : Byte) (f : Frame) (s : State), s.listening →
    exec (.unknownOpcode opcode f) s = .next (s.answered opcode .badOpcode [])) ∧
  ∀ (i : Instr) (opcode : Byte) (f : Frame) (s : State), s.listening → i.opcode? = some opcode → i.frame? = some f →
    (∀ o g, i ≠ .unknownOpcode o g) → 48 < f.len.toNat → exec i s = .next (s.answered opcode .badLength [])

/-- IDENTIFY returns its fixed values, STATUS the snapshot of the shared state (and sets the last frame fault to NONE), TIME_READ the time base; a
payload is BAD_LENGTH. -/
def Obligations.IdentifyStatusAndTimeAnswer : Prop :=
  ∀ (f : Frame) (s : State), s.listening →
    (f.len.toNat ≠ 0 → exec (.identify f) s = .next (s.answered 0x01#8 .badLength []) ∧
      exec (.status f) s = .next (s.answered 0x02#8 .badLength []) ∧
      exec (.timeRead f) s = .next (s.answered 0x03#8 .badLength [])) ∧
    (f.len.toNat = 0 →
      exec (.identify f) s = .next (s.answered 0x01#8 .ok
        [0x0C#8, 0x5E#8, 0x24#8, 0x10#8, 1#8, 32#8, 4#8, 16#8, 4#8, 96#8, 64#8, 32#8, 160#8, 48#8]) ∧
      exec (.status f) s = .next (({ s with frameFault := ⟨.none, 0, 0⟩ } : State).answered 0x02#8 .ok
        ([byteOf ((if s.upRdy = .high then 1 else 0) + if s.dnRdy = .high then 2 else 0), byteOf s.tickets, byteOf s.occupancy,
            byteOf s.activeCount, byteOf s.orphanCount, byteOf s.returnQ.length, byteOf (s.cls 0).credits,
            byteOf (s.cls 1).credits, byteOf (s.cls 2).credits, byteOf (s.cls 3).credits, byteOf s.evq.records.length]
          ++ bytes4 s.evq.lost.toNat
          ++ [byteOf (match s.frameFault.kind with
            | .none => 0
            | .commandCut => 1
            | .responseCut => 2), s.frameFault.opcode, byteOf s.frameFault.bytes])) ∧
      exec (.timeRead f) s = .next (s.answered 0x03#8 .ok (bytes4 s.timeBase.toNat)))

/-- CONTRACT_READ, REGION_READ, CLASS_READ, LINE_READ and GLOBAL_READ answer OK with the named record as it stands, field by field in its
layout, HOLD_READ with the tag, the recorded charge and the age at a position of the list; they change nothing. An index out of range, or a position at or past the list's length, is BAD_INDEX,
and with a good index a wrong length is BAD_LENGTH. -/
def Obligations.TableReadsAnswerTheRecord : Prop :=
  ∀ (f : Frame) (s : State), s.listening → f.len.toNat ≤ 48 →
    let contractBytes := fun c : Contract =>
      [byteOf (match c.settings.mode with
        | .reload => 0
        | .oneShot => 1
        | .triggered => 2), byteOf c.settings.cls.val] ++ bytes2 c.settings.budget ++ bytes2 c.settings.carry
        ++ [byteOf (match c.settings.tickBase with
          | .t0 => 0
          | .t1 => 1
          | .t2 => 2
          | .t3 => 3)] ++ bytes2 c.settings.periodCount ++ [byteOf c.settings.triggerLine.val] ++ bytes2 c.settings.edgesPerRefill
        ++ [byteOf c.settings.holdLimit] ++ bytes2 c.settings.waitLimit
        ++ [byteOf (if c.settings.waitAction = .force then 1 else 0),
          byteOf (match c.state with
            | .unpaced => 0
            | .paced => 1
            | .spent => 2
            | .barred => 3)] ++ bytes2 c.balance ++ [byteOf c.edgeCount, if c.staged = none then 0#8 else 1#8]
    let actionCode := fun a : RegionAction => match a with
      | .paced => 0
      | .free => 1
      | .blocked => 2
    let weightCode := fun w : Weight => match w with
      | .w1 => 1
      | .w2 => 2
      | .w4 => 4
    let regionBytes := fun r : Region =>
      [if r.valid then 1#8 else 0#8] ++ bytes4 r.base ++ bytes4 r.limit ++ [byteOf (actionCode r.action), byteOf (weightCode r.weight)]
        ++ bytes4 r.mask.toNat
    let classBytes := fun (c : ClassRec) (queued : Nat) =>
      [byteOf c.defaultCredit, if c.stagedCredit = none then 0#8 else 1#8,
        byteOf (match c.stagedCredit with
          | none => 0
          | some x => x), byteOf c.credits, byteOf queued] ++ bytes2 c.responseLimit ++ bytes2 c.edges[0] ++ bytes2 c.edges[1]
        ++ bytes2 c.edges[2] ++ bytes2 c.edges[3] ++ bytes2 c.edges[4] ++ bytes2 c.edges[5] ++ bytes2 c.edges[6]
    let lineBytes := fun l : Line =>
      [byteOf (match l.edge with
        | .rising => 0
        | .falling => 1
        | .both => 2), byteOf l.filter, if l.settled = .high then 1#8 else 0#8, if l.transition = none then 0#8 else 1#8]
    let globalBytes :=
      [if s.globals.policy = .strict then 1#8 else 0#8, byteOf (actionCode s.globals.unmatchedAction),
        byteOf (weightCode s.globals.unmatchedWeight)] ++ bytes2 s.globals.mask.toNat
    (32 ≤ f.index.toNat → exec (.contractRead f) s = .next (s.answered 0x10#8 .badIndex []) ∧
      exec (.holdRead f) s = .next (s.answered 0x13#8 .badIndex [])) ∧
    (16 ≤ f.index.toNat → exec (.regionRead f) s = .next (s.answered 0x20#8 .badIndex [])) ∧
    (4 ≤ f.index.toNat → exec (.classRead f) s = .next (s.answered 0x28#8 .badIndex []) ∧
      exec (.lineRead f) s = .next (s.answered 0x30#8 .badIndex [])) ∧
    (∀ src : Fin 32, f.index.toNat = src.val →
      (f.len.toNat ≠ 0 → exec (.contractRead f) s = .next (s.answered 0x10#8 .badLength [])) ∧
      (f.len.toNat = 0 → exec (.contractRead f) s = .next (s.answered 0x10#8 .ok (contractBytes (s.contract src)))) ∧
      (f.len.toNat ≠ 1 → exec (.holdRead f) s = .next (s.answered 0x13#8 .badLength [])) ∧
      (f.len.toNat = 1 → (s.hold src).length ≤ f.u8 0 → exec (.holdRead f) s = .next (s.answered 0x13#8 .badIndex [])) ∧
      ∀ r, f.len.toNat = 1 → (s.hold src)[f.u8 0]? = some r →
        exec (.holdRead f) s = .next (s.answered 0x13#8 .ok
          ([byteOf r.tag.val, byteOf r.charge] ++ bytes4 (s.timeBase - r.arrival).toNat))) ∧
    (∀ i : Fin 16, f.index.toNat = i.val →
      (f.len.toNat ≠ 0 → exec (.regionRead f) s = .next (s.answered 0x20#8 .badLength [])) ∧
      (f.len.toNat = 0 → exec (.regionRead f) s = .next (s.answered 0x20#8 .ok (regionBytes (s.region i))))) ∧
    (∀ c : Fin 4, f.index.toNat = c.val →
      (f.len.toNat ≠ 0 → exec (.classRead f) s = .next (s.answered 0x28#8 .badLength []) ∧
        exec (.lineRead f) s = .next (s.answered 0x30#8 .badLength [])) ∧
      (f.len.toNat = 0 → exec (.classRead f) s = .next (s.answered 0x28#8 .ok (classBytes (s.cls c) (s.queue c).length)) ∧
        exec (.lineRead f) s = .next (s.answered 0x30#8 .ok (lineBytes (s.line c))))) ∧
    (f.len.toNat ≠ 0 → exec (.globalRead f) s = .next (s.answered 0x38#8 .badLength [])) ∧
    (f.len.toNat = 0 → exec (.globalRead f) s = .next (s.answered 0x38#8 .ok globalBytes))

/-- COUNTERS_READ answers with every member of the named group as it stands, field by field in its layout, and with the clear flag set clears that group
alone; a wrong length, then a scope or flag that names nothing, then an index outside the scope's range, is refused, with the clear flag as without. -/
def Obligations.CountersReadSnapshotsAndClears : Prop :=
  ∀ (f : Frame) (s : State), s.listening → f.len.toNat ≤ 48 →
    let sourceBytes := fun c : SourceCounts => bytes4 c.arrivals.toNat ++ bytes4 c.chargedBeats.toNat ++ bytes4 c.freeBeats.toNat
      ++ bytes4 c.forcedBeats.toNat ++ bytes4 c.heldCount.toNat ++ bytes4 c.refusedCount.toNat ++ [byteOf c.maxHoldDepth]
      ++ bytes4 c.maxResidence.toNat
    let classBytes := fun c : ClassCounts => bytes4 c.completions.toNat ++ bytes4 c.bins[0].toNat ++ bytes4 c.bins[1].toNat
      ++ bytes4 c.bins[2].toNat ++ bytes4 c.bins[3].toNat ++ bytes4 c.bins[4].toNat ++ bytes4 c.bins[5].toNat
      ++ bytes4 c.bins[6].toNat ++ bytes4 c.bins[7].toNat ++ bytes2 c.minLatency ++ bytes2 c.maxLatency
      ++ bytes4 c.timeouts.toNat ++ bytes4 c.late.toNat ++ bytes4 c.memErrors.toNat
    let globalBytes := bytes4 s.globCounts.stray.toNat ++ bytes4 s.globCounts.duplicates.toNat
      ++ bytes4 s.globCounts.malformed.toNat
    (∀ i ∈ [Instr.countersRead f, .countersReadClear f],
      (f.len.toNat ≠ 2 → exec i s = .next (s.answered 0x40#8 .badLength [])) ∧
      (f.len.toNat = 2 → 2 < f.u8 0 ∨ 1 < f.u8 1 → exec i s = .next (s.answered 0x40#8 .badValue [])) ∧
      (f.len.toNat = 2 → f.u8 1 ≤ 1 →
        (f.u8 0 = 0 ∧ 32 ≤ f.index.toNat ∨ f.u8 0 = 1 ∧ 4 ≤ f.index.toNat ∨ f.u8 0 = 2 ∧ f.index.toNat ≠ 0) →
        exec i s = .next (s.answered 0x40#8 .badIndex []))) ∧
    (∀ src : Fin 32, f.len.toNat = 2 → f.u8 0 = 0 → f.index.toNat = src.val →
      (f.u8 1 = 0 → exec (.countersRead f) s = .next (s.answered 0x40#8 .ok (sourceBytes (s.srcCount src)))) ∧
      (f.u8 1 = 1 → exec (.countersReadClear f) s = .next
        ((s.setSrcCount src ⟨0, 0, 0, 0, 0, 0, 0, 0⟩).answered 0x40#8 .ok (sourceBytes (s.srcCount src))))) ∧
    (∀ c : Fin 4, f.len.toNat = 2 → f.u8 0 = 1 → f.index.toNat = c.val →
      (f.u8 1 = 0 → exec (.countersRead f) s = .next (s.answered 0x40#8 .ok (classBytes (s.clsCount c)))) ∧
      (f.u8 1 = 1 → exec (.countersReadClear f) s = .next
        ((s.setClsCount c ⟨0, Vector.replicate 8 0, 65535, 0, 0, 0, 0⟩).answered 0x40#8 .ok (classBytes (s.clsCount c))))) ∧
    (f.len.toNat = 2 → f.u8 0 = 2 → f.index.toNat = 0 →
      (f.u8 1 = 0 → exec (.countersRead f) s = .next (s.answered 0x40#8 .ok globalBytes)) ∧
      (f.u8 1 = 1 → exec (.countersReadClear f) s = .next
        (({ s with globCounts := ⟨0, 0, 0⟩ } : State).answered 0x40#8 .ok globalBytes)))

/-- EVENT_READ returns the head record whole with the record count and changes nothing. EVENT_RELEASE with the head's sequence removes the head; with a
lost count that is not 0 OVERFLOW joins with it, and the count becomes 0. A wrong length, an empty queue and, for a release, another sequence are
answered BAD_LENGTH, EMPTY and STATE, and remove nothing. Each kind of record has its code, the source and class that it carries, and its detail. -/
def Obligations.EventReadShowsAndReleaseRemovesTheHead : Prop :=
  (∀ e : Event, (e.kindCode, e.source?, e.class?, e.detail.toNat) =
    match e with
    | .holdStart src tag => (0, some src, none, tag.val)
    | .waitExpired src tag action => (1, some src, none, tag.val + 256 * if action = .force then 1 else 0)
    | .refusal src tag reason => (2, some src, none, tag.val + 256 * match reason with
      | .malformed => 1
      | .blocked => 2
      | .barred => 3
      | .spent => 4
      | .storeFull => 5
      | .holdFull => 6
      | .waitExpired => 7)
    | .duplicateTag src tag => (3, some src, none, tag.val)
    | .responseTimeout src c tag dtag => (4, some src, some c, tag.val + 256 * dtag.val)
    | .lateCompletion src c dtag => (5, some src, some c, 256 * dtag.val)
    | .strayCompletion dtag => (6, none, none, 256 * dtag.val)
    | .downstreamDown aborted orphans => (7, none, none, (aborted + 65536 * orphans) % 2 ^ 32)
    | .downstreamUp credits => (8, none, none, credits % 2 ^ 32)
    | .upstreamReset slots orphaned => (9, none, none, (slots + 65536 * orphaned) % 2 ^ 32)
    | .windowClosed src refused => (10, some src, none, refused % 2 ^ 32)
    | .contractApplied src => (11, some src, none, 0)
    | .counterWrap (.source src k) => (12, some src, none, match k with
      | .arrivals => 0
      | .chargedBeats => 1
      | .freeBeats => 2
      | .forcedBeats => 3
      | .heldCount => 4
      | .refusedCount => 5)
    | .counterWrap (.cls c k) => (12, none, some c, match k with
      | .completions => 6
      | .bin b => 7 + b.val
      | .timeouts => 15
      | .late => 16
      | .memErrors => 17)
    | .counterWrap (.global k) => (12, none, none, match k with
      | .stray => 18
      | .duplicates => 19
      | .malformed => 20)
    | .overflow lost => (13, none, none, lost.toNat)) ∧
  ∀ (f : Frame) (s : State), s.listening →
    (f.len.toNat ≠ 0 → exec (.eventRead f) s = .next (s.answered 0x48#8 .badLength [])) ∧
    (f.len.toNat ≠ 2 → exec (.eventRelease f) s = .next (s.answered 0x49#8 .badLength [])) ∧
    (s.evq.records = [] →
      (f.len.toNat = 0 → exec (.eventRead f) s = .next (s.answered 0x48#8 .empty [])) ∧
      (f.len.toNat = 2 → exec (.eventRelease f) s = .next (s.answered 0x49#8 .empty []))) ∧
    ∀ r rest, s.evq.records = r :: rest →
      (f.len.toNat = 0 → exec (.eventRead f) s = .next (s.answered 0x48#8 .ok
        (bytes2 r.seq.toNat ++ [byteOf r.event.kindCode] ++ bytes4 r.time.toNat
          ++ [byteOf ((if r.event.source? = none then 0 else 1) + if r.event.class? = none then 0 else 2),
            byteOf (match r.event.source? with
              | none => 0
              | some src => src.val),
            byteOf (match r.event.class? with
              | none => 0
              | some c => c.val)]
          ++ bytes4 r.event.detail.toNat ++ [byteOf (rest.length + 1)]))) ∧
      (f.len.toNat = 2 → r.seq.toNat ≠ f.u16 0 → exec (.eventRelease f) s = .next (s.answered 0x49#8 .state [])) ∧
      (f.len.toNat = 2 → r.seq.toNat = f.u16 0 → s.evq.lost = 0 →
        exec (.eventRelease f) s = .next (({ s with evq := ⟨rest, s.evq.nextSeq, 0⟩ } : State).answered 0x49#8 .ok [])) ∧
      (f.len.toNat = 2 → r.seq.toNat = f.u16 0 → s.evq.lost ≠ 0 →
        exec (.eventRelease f) s = .next (({ s with
          evq := ⟨rest ++ [⟨s.evq.nextSeq, s.timeBase, .overflow s.evq.lost⟩], s.evq.nextSeq + 1, 0⟩ } : State).answered
            0x49#8 .ok []))

/-! ### Writes of settings -/

/-- REGION_WRITE: index, length, field ranges and base ≤ limit are checked in that order; a write that passes replaces the entry, and REGION_READ then
returns the payload. -/
def Obligations.RegionWriteReplacesTheEntry : Prop :=
  ∀ (f : Frame) (s : State), s.listening → f.len.toNat ≤ 48 →
    (16 ≤ f.index.toNat → exec (.regionWrite f) s = .next (s.answered 0x21#8 .badIndex [])) ∧
    (f.index.toNat < 16 → f.len.toNat ≠ 15 → exec (.regionWrite f) s = .next (s.answered 0x21#8 .badLength [])) ∧
    (f.index.toNat < 16 → f.len.toNat = 15 →
      (1 < f.u8 0 ∨ 2 < f.u8 9 ∨ (f.u8 10 ≠ 1 ∧ f.u8 10 ≠ 2 ∧ f.u8 10 ≠ 4) ∨ 2 ^ 28 ≤ f.u32 1 ∨ 2 ^ 28 ≤ f.u32 5 ∨
        f.u32 5 < f.u32 1) → exec (.regionWrite f) s = .next (s.answered 0x21#8 .badValue [])) ∧
    ∀ (i : Fin 16) (r : Region) (g : Frame), f.index.toNat = i.val → f.len.toNat = 15 → f.WellFormed = true →
      f.u8 0 = (if r.valid then 1 else 0) → r.base = f.u32 1 → r.limit = f.u32 5 → r.base ≤ r.limit → r.limit < 2 ^ 28 →
      r.action.code = f.u8 9 → r.weight.beats = f.u8 10 → r.mask = BitVec.ofNat 32 (f.u32 11) →
      g.index = f.index → g.len = 0 →
      exec (.regionWrite f) s = .next ((s.setRegion i r).answered 0x21#8 .ok []) ∧
      exec (.regionRead g) (s.setRegion i r) = .next ((s.setRegion i r).answered 0x20#8 .ok f.payload)

/-- CONTRACT_WRITE is checked in the order index, length, ranges and ceiling, mode and class restrictions; a source command in the order index, length,
code, allowed state and mode. -/
def Obligations.ContractCommandsAreCheckedInOrder : Prop :=
  (∀ (f : Frame) (s : State), s.listening → f.len.toNat ≤ 48 →
    (32 ≤ f.index.toNat → exec (.contractWrite f) s = .next (s.answered 0x11#8 .badIndex [])) ∧
    ∀ src : Fin 32, f.index.toNat = src.val →
      (f.len.toNat ≠ 16 → exec (.contractWrite f) s = .next (s.answered 0x11#8 .badLength [])) ∧
      (f.len.toNat = 16 →
        (2 < f.u8 0 ∨ 3 < f.u8 1 ∨ f.u16 2 = 0 ∨ 3 < f.u8 6 ∨ f.u16 7 = 0 ∨ 4096 < f.u16 7 ∨ 3 < f.u8 9 ∨ f.u16 10 = 0 ∨
          256 < f.u16 10 ∨ 32 < f.u8 12 ∨ 1 < f.u8 15 ∨ f.u16 2 + f.u16 4 < 64 ∨ 65535 < f.u16 2 + f.u16 4) →
        exec (.contractWrite f) s = .next (s.answered 0x11#8 .badValue [])) ∧
      ∀ x, f.len.toNat = 16 → Settings.ofFrame f = some x → 64 ≤ x.budget + x.carry → x.budget + x.carry ≤ 65535 →
        ((s.contract src).state ≠ .unpaced →
          x.mode ≠ (s.contract src).settings.mode ∨ x.cls ≠ (s.contract src).settings.cls →
          exec (.contractWrite f) s = .next (s.answered 0x11#8 .state [])) ∧
        ((s.contract src).state = .unpaced → x.cls ≠ (s.contract src).settings.cls → s.storesOf src = true →
          exec (.contractWrite f) s = .next (s.answered 0x11#8 .state []))) ∧
  ∀ (f : Frame) (s : State), s.listening → f.len.toNat ≤ 48 →
    (∀ i ∈ [Instr.enable f, .disable f, .bar f, .unbar f, .arm f],
      (32 ≤ f.index.toNat → exec i s = .next (s.answered 0x12#8 .badIndex [])) ∧
      (f.index.toNat < 32 → f.len.toNat ≠ 1 → exec i s = .next (s.answered 0x12#8 .badLength [])) ∧
      (f.index.toNat < 32 → f.len.toNat = 1 → f.u8 0 = 0 ∨ 5 < f.u8 0 →
        exec i s = .next (s.answered 0x12#8 .badValue []))) ∧
    ∀ src : Fin 32, f.index.toNat = src.val → f.len.toNat = 1 →
      let c := s.contract src
      (f.u8 0 = 1 → c.state ≠ .unpaced → exec (.enable f) s = .next (s.answered 0x12#8 .state [])) ∧
      (f.u8 0 = 2 → c.state = .unpaced ∨ c.state = .barred → exec (.disable f) s = .next (s.answered 0x12#8 .state [])) ∧
      (f.u8 0 = 3 → c.state = .barred → exec (.bar f) s = .next (s.answered 0x12#8 .state [])) ∧
      (f.u8 0 = 4 → c.state ≠ .barred → exec (.unbar f) s = .next (s.answered 0x12#8 .state [])) ∧
      (f.u8 0 = 5 → c.state = .unpaced ∨ c.state = .barred ∨ c.settings.mode ≠ .oneShot →
        exec (.arm f) s = .next (s.answered 0x12#8 .state []))

/-- CONTRACT_WRITE that passes its checks is applied at once in UNPACED, SPENT and BARRED, with the balance clipped to the new ceiling, and is staged in
PACED; and the settings it carries are those that CONTRACT_READ returns in the same 16 bytes. -/
def Obligations.ContractWriteAppliesOrStages : Prop :=
  ∀ (f : Frame) (s : State) (src : Fin 32) (x : Settings), s.listening → f.index.toNat = src.val → f.len.toNat = 16 →
    f.WellFormed = true → Settings.ofFrame f = some x → 64 ≤ x.budget + x.carry → x.budget + x.carry ≤ 65535 →
    let c := s.contract src
    (c.state = .unpaced → x.cls = c.settings.cls ∨ s.storesOf src = false) →
    (c.state ≠ .unpaced → x.mode = c.settings.mode ∧ x.cls = c.settings.cls) →
    x.bytes = f.payload ∧
    (c.state ≠ .paced → exec (.contractWrite f) s = .next ((s.setContract src { c with
      settings := x, balance := if x.budget + x.carry < c.balance then x.budget + x.carry else c.balance }).answered 0x11#8
        .ok [])) ∧
    (c.state = .paced → exec (.contractWrite f) s = .next ((s.setContract src { c with staged := some x }).answered 0x11#8
      .staged []))

/-- ENABLE in UNPACED: PACED, balance the budget, edge count 0, and the timer of its mode started at this take. UNBAR in BARRED, and DISABLE in SPENT,
make the state UNPACED and do nothing more. -/
def Obligations.EnablePacesAndUnbarUnpaces : Prop :=
  ∀ (f : Frame) (s : State) (src : Fin 32), s.listening → f.index.toNat = src.val → f.len.toNat = 1 →
    let c := s.contract src
    let length := c.settings.periodCount * c.settings.tickBase.ticks
    let unpaced := (s.setContract src { c with state := .unpaced }).answered 0x12#8 .ok []
    (f.u8 0 = 1 → c.state = .unpaced →
      exec (.enable f) s = .next ((s.setContract src { c with
        state := .paced
        balance := c.settings.budget
        edgeCount := 0
        timer := match c.settings.mode with
          | .reload => .running .period s.timeBase length
          | .oneShot => .running .window s.timeBase length
          | .triggered => .stopped }).answered 0x12#8 .ok [])) ∧
    (f.u8 0 = 4 → c.state = .barred → exec (.unbar f) s = .next unpaced) ∧
    (f.u8 0 = 2 → c.state = .spent → exec (.disable f) s = .next unpaced)

/-- DISABLE in PACED: UNPACED, the timer stopped without a boundary, the staged copy applied, and the hold list moved to the tail of the class queue in
order, uncharged; FREE_BEATS counts the beats released, modulo 2^32, each increment that wraps raising COUNTER_WRAP, and no other counter changes. -/
def Obligations.DisableReleasesTheList : Prop :=
  ∀ (f : Frame) (s : State) (src : Fin 32), s.listening → f.index.toNat = src.val → f.len.toNat = 1 → f.u8 0 = 2 →
    (s.contract src).state = .paced →
    let a := (s.setContract src { s.contract src with state := .unpaced, timer := .stopped }).applyStaged src
    let c := (a.contract src).settings.cls
    ∃ t, exec (.disable f) s = .next t ∧
      t = { (a.setHold src []).setQueue c (s.queue c ++ s.hold src) with
        srcCounts := t.srcCounts, evq := t.evq, response := some ⟨0x12#8, .ok, []⟩ } ∧
      (t.srcCount src = { s.srcCount src with
        freeBeats := (s.srcCount src).freeBeats + BitVec.ofNat 32 ((s.hold src).map StoredReq.beats).sum }) ∧
      (∀ i, i ≠ src → t.srcCount i = s.srcCount i) ∧
      t.evq = ((s.hold src).foldl (fun (u : State) (r : StoredReq) => u.countSource src .freeBeats r.beats) a).evq

/-- BAR: BARRED, the timer stopped, the staged copy applied, and first the hold list, oldest first, then the source's requests in its class queue, in
queue order, refused BARRED; the other sources' requests keep their order. -/
def Obligations.BarRefusesHeldAndQueued : Prop :=
  ∀ (f : Frame) (s : State) (src : Fin 32), s.listening → f.index.toNat = src.val → f.len.toNat = 1 → f.u8 0 = 3 →
    (s.contract src).state ≠ .barred →
    let a := (s.setContract src { s.contract src with state := .barred, timer := .stopped }).applyStaged src
    let c := (a.contract src).settings.cls
    let held := s.hold src
    let own := (s.queue c).filter fun r => r.source = src
    ∃ t, exec (.bar f) s = .next t ∧
      t = { (((a.setHold src []).setQueue c ((s.queue c).filter fun r => r.source ≠ src)).refuseList .barred
        (held ++ own)) with response := some ⟨0x12#8, .ok, []⟩ } ∧
      t.returnQ = s.returnQ ++ (held ++ own).map fun r => ⟨r.source, wireTag r.tag, .refused .barred, []⟩

/-- ARM in ONE_SHOT mode, in PACED or SPENT: the staged copy applied, PACED, balance the budget then standing, a fresh window from this take, and the
drain with its head check. -/
def Obligations.ArmStartsAWindow : Prop :=
  ∀ (f : Frame) (s : State) (src : Fin 32), s.listening → f.index.toNat = src.val → f.len.toNat = 1 → f.u8 0 = 5 →
    (s.contract src).state = .paced ∨ (s.contract src).state = .spent →
    (s.contract src).settings.mode = .oneShot → (∀ x ∈ (s.contract src).staged, x.mode = .oneShot) →
    let a := s.applyStaged src
    let c := a.contract src
    exec (.arm f) s = .next (((a.setContract src { c with
      state := .paced
      balance := c.settings.budget
      timer := .running .window s.timeBase (c.settings.periodCount * c.settings.tickBase.ticks) }).drainAndCheck
        src).answered 0x12#8 .ok [])

/-- CLASS_WRITE: index, length, credit and edges are checked in that order; a write that passes replaces response limit and edges, applies the default
credit at once while DN_RDY is low (discarding a staged one) and stages it while it is high, and clears the histogram where an edge differs. -/
def Obligations.ClassWriteAppliesOrStagesCredit : Prop :=
  ∀ (f : Frame) (s : State), s.listening → f.len.toNat ≤ 48 →
    (4 ≤ f.index.toNat → exec (.classWrite f) s = .next (s.answered 0x29#8 .badIndex [])) ∧
    (f.index.toNat < 4 → f.len.toNat ≠ 17 → exec (.classWrite f) s = .next (s.answered 0x29#8 .badLength [])) ∧
    (f.index.toNat < 4 → f.len.toNat = 17 →
      (f.u8 0 = 0 ∨ 32 < f.u8 0 ∨ f.u16 3 = 0 ∨ ∃ i < 6, f.u16 (5 + 2 * i) ≤ f.u16 (3 + 2 * i)) →
      exec (.classWrite f) s = .next (s.answered 0x29#8 .badValue [])) ∧
    ∀ c : Fin 4, f.index.toNat = c.val → f.len.toNat = 17 → 1 ≤ f.u8 0 → f.u8 0 ≤ 32 → f.u16 3 ≠ 0 →
      (∀ i < 6, f.u16 (3 + 2 * i) < f.u16 (5 + 2 * i)) →
      let old := s.cls c
      let edges : Vector Nat 7 := #v[f.u16 3, f.u16 5, f.u16 7, f.u16 9, f.u16 11, f.u16 13, f.u16 15]
      let new : ClassRec := { old with
        defaultCredit := if s.dnRdy = .high then old.defaultCredit else f.u8 0
        stagedCredit := if s.dnRdy = .high then some (f.u8 0) else none
        responseLimit := f.u16 1
        edges := edges }
      let cleared : ClassCounts := { s.clsCount c with
        completions := 0, bins := Vector.replicate 8 0, minLatency := 65535, maxLatency := 0 }
      exec (.classWrite f) s = .next
        ((if old.edges = edges then s.setClass c new else (s.setClass c new).setClsCount c cleared).answered 0x29#8
          (if s.dnRdy = .high then .staged else .ok) [])

/-- LINE_WRITE: index, length and values are checked in that order; a write that passes replaces both settings, restarts a pending transition's filter
check at this take, and settles it at once under filter 0. -/
def Obligations.LineWriteReplacesSettings : Prop :=
  ∀ (f : Frame) (s : State), s.listening → f.len.toNat ≤ 48 →
    (4 ≤ f.index.toNat → exec (.lineWrite f) s = .next (s.answered 0x31#8 .badIndex [])) ∧
    (f.index.toNat < 4 → f.len.toNat ≠ 2 → exec (.lineWrite f) s = .next (s.answered 0x31#8 .badLength [])) ∧
    (f.index.toNat < 4 → f.len.toNat = 2 → 2 < f.u8 0 ∨ 15 < f.u8 1 →
      exec (.lineWrite f) s = .next (s.answered 0x31#8 .badValue [])) ∧
    ∀ (n : Fin 4) (edge : EdgeSetting), f.index.toNat = n.val → f.len.toNat = 2 → f.u8 0 = edge.code → f.u8 1 ≤ 15 →
      let new := { s.line n with edge := edge, filter := f.u8 1 }
      ((s.line n).transition = none →
        exec (.lineWrite f) s = .next ((s.setLine n new).answered 0x31#8 .ok [])) ∧
      ∀ (level : Level) (seen : Time), (s.line n).transition = some (level, seen) →
        let settled := s.setLine n { new with settled := level, transition := none }
        (f.u8 1 ≠ 0 → exec (.lineWrite f) s = .next
          ((s.setLine n { new with transition := some (level, s.timeBase) }).answered 0x31#8 .ok [])) ∧
        (f.u8 1 = 0 → exec (.lineWrite f) s = .next
          ((if edge = .both ∨ (edge = .rising ∧ level = .high) ∨ (edge = .falling ∧ level = .low)
            then settled.qualifyingEdge n else settled).answered 0x31#8 .ok []))

/-- GLOBAL_WRITE: length and then all fields are checked; a write that passes replaces the four settings together, and GLOBAL_READ then returns the
payload. -/
def Obligations.GlobalWriteReplacesSettings : Prop :=
  ∀ (f : Frame) (s : State), s.listening → f.len.toNat ≤ 48 →
    (f.len.toNat ≠ 5 → exec (.globalWrite f) s = .next (s.answered 0x39#8 .badLength [])) ∧
    (f.len.toNat = 5 →
      1 < f.u8 0 ∨ 2 < f.u8 1 ∨ (f.u8 2 ≠ 1 ∧ f.u8 2 ≠ 2 ∧ f.u8 2 ≠ 4) ∨ 2 ^ 13 ≤ f.u16 3 →
      exec (.globalWrite f) s = .next (s.answered 0x39#8 .badValue [])) ∧
    ∀ (x : GlobalSettings) (g : Frame), f.len.toNat = 5 → f.WellFormed = true → x.policy.code = f.u8 0 →
      x.unmatchedAction.code = f.u8 1 → x.unmatchedWeight.beats = f.u8 2 → x.mask.toNat = f.u16 3 → g.len = 0 →
      exec (.globalWrite f) s = .next (({ s with globals := x } : State).answered 0x39#8 .ok []) ∧
      exec (.globalRead g) { s with globals := x } = .next (({ s with globals := x } : State).answered 0x38#8 .ok f.payload)

/-- TRAFFIC_RESET: every stored request and then every ACTIVE entry is answered ABORTED in the fixed order behind what the Return Queue holds, the store is
empty, ACTIVE entries are ORPHANED with their credits, each PACED contract takes its staged copy, one budget, edge count 0 and a fresh timer, and
the two numbers are returned; each staged copy applied raises CONTRACT_APPLIED, by ascending source, and nothing else is raised; tickets, tags, credits
and counters stand. -/
def Obligations.TrafficResetAbortsAndRestarts : Prop :=
  ∀ (f : Frame) (s : State), s.listening →
    (f.len.toNat ≠ 0 → exec (.trafficReset f) s = .next (s.answered 0x50#8 .badLength [])) ∧
    (f.len.toNat = 0 → ∃ t, exec (.trafficReset f) s = .next t ∧
      t = { s with
        returnQ := t.returnQ, holds := t.holds, queues := t.queues, entries := t.entries, contracts := t.contracts,
        evq := t.evq, response := some ⟨0x50#8, .ok, [byteOf s.occupancy, byteOf s.activeCount]⟩ } ∧
      t.returnQ = s.returnQ
        ++ (((List.finRange 32).flatMap s.hold ++ (List.finRange 4).flatMap s.queue).map fun r =>
          ⟨r.source, wireTag r.tag, .aborted, []⟩)
        ++ (List.finRange 64).filterMap (fun d =>
          match s.entry d with
          | .active r => some ⟨r.source, wireTag r.tag, .aborted, []⟩
          | .free => none
          | .orphaned _ => none) ∧
      (∀ src, t.hold src = []) ∧ (∀ c, t.queue c = []) ∧
      (∀ d, t.entry d = match s.entry d with
        | .free => .free
        | .active r => .orphaned { r with due := none }
        | .orphaned r => .orphaned r) ∧
      ∀ src,
        let c := s.contract src
        let x := c.staged.getD c.settings
        (c.state ≠ .paced → t.contract src = c) ∧
        (c.state = .paced → t.contract src =
          { settings := x, state := .paced, balance := x.budget, edgeCount := 0, staged := none,
            timer := match x.mode with
              | .reload => .running .period s.timeBase (x.periodCount * x.tickBase.ticks)
              | .oneShot => .running .window s.timeBase (x.periodCount * x.tickBase.ticks)
              | .triggered => .stopped }) ∧
        t.evq = ((List.finRange 32).foldl (fun (u : State) (i : Fin 32) =>
          if (s.contract i).state = .paced ∧ (s.contract i).staged ≠ none then u.raise (.contractApplied i) else u) s).evq)

/-! ### Shared operations -/

/-- Applying a staged copy: its settings replace the live ones, it becomes absent, the balance is lowered to the new ceiling if above it, and
CONTRACT_APPLIED is raised; with none present nothing happens. -/
def Obligations.StagedCopyIsAppliedWhole : Prop :=
  ∀ (s : State) (src : Fin 32),
    ((s.contract src).staged = none → s.applyStaged src = s) ∧
    ∀ x, (s.contract src).staged = some x →
      s.applyStaged src = (s.setContract src { s.contract src with
        settings := x, staged := none,
        balance := if x.budget + x.carry < (s.contract src).balance then x.budget + x.carry
          else (s.contract src).balance }).raise (.contractApplied src)

/-- A refusal by the Admission Unit, of an arrival or of a stored request: its completion joins the tail of the Return Queue with the ticket it holds,
REFUSED_COUNT counts it and REFUSAL is raised; several are refused in order, and their completions join in that order. -/
def Obligations.RefusalAnswersCountsAndRecords : Prop :=
  (∀ (s : State) (src : Fin 32) (tag : Fin 16) (reason : Reason),
    s.refuse src tag reason =
      (({ s with returnQ := s.returnQ ++ [⟨src, wireTag tag, .refused reason, []⟩] } : State).countSource src .refusedCount
        1).raise (.refusal src (wireTag tag) reason)) ∧
  (∀ (s : State) (reason : Reason) (r : StoredReq) (rest : List StoredReq),
    s.refuseList reason [] = s ∧ s.refuseList reason (r :: rest) = (s.refuse r.source r.tag reason).refuseList reason rest) ∧
  ∀ (s : State) (reason : Reason) (l : List StoredReq),
    let t := s.refuseList reason l
    t = { s with returnQ := t.returnQ, srcCounts := t.srcCounts, evq := t.evq } ∧
    t.returnQ = s.returnQ ++ l.map (fun r => ⟨r.source, wireTag r.tag, .refused reason, []⟩) ∧
    (∀ src, (t.srcCount src).refusedCount =
      (s.srcCount src).refusedCount + BitVec.ofNat 32 (l.countP fun r => r.source = src))

/-- An event raised: a masked kind leaves everything; an enabled one, or OVERFLOW, joins the tail of a queue below 32 records with the next sequence and
the time now, and is lost and counted, saturating, when the queue holds 32. Nothing but the event queue changes. ALERT_N is low exactly while RESET_N is high and the queue holds a record. -/
def Obligations.RaisedEventJoinsOrIsLost : Prop :=
  (∀ s : State, s.alertN = .low ↔ s.resetN = .high ∧ s.evq.records ≠ []) ∧
  ∀ (s : State) (e : Event),
    let t := s.raise e
    let enabled := e.kindCode = 13 ∨ s.globals.mask.getLsbD e.kindCode = true
    t = { s with evq := t.evq } ∧
    (¬ enabled → t = s) ∧
    (enabled → s.evq.records.length < 32 →
      t.evq = ⟨s.evq.records ++ [⟨s.evq.nextSeq, s.timeBase, e⟩], s.evq.nextSeq + 1, s.evq.lost⟩) ∧
    (enabled → 32 ≤ s.evq.records.length →
      t.evq.records = s.evq.records ∧ t.evq.nextSeq = s.evq.nextSeq ∧ t.alertN = s.alertN ∧
      t.evq.lost.toNat = min (s.evq.lost.toNat + 1) (2 ^ 32 - 1))

/-- A counter raised by `n` holds its value modulo 2^32, and COUNTER_WRAP is raised, once, exactly when it passed 2^32 − 1; no other counter changes. -/
def Obligations.CountersWrapWithAnEvent : Prop :=
  (∀ (s : State) (src : Fin 32) (k : SourceCounter) (n : Nat), n < 2 ^ 32 →
    let v := ((s.srcCount src).get k).toNat
    let t := s.countSource src k n
    ((t.srcCount src).get k).toNat = (v + n) % 2 ^ 32 ∧ (∀ j, j ≠ k → (t.srcCount src).get j = (s.srcCount src).get j) ∧
    (∀ i, i ≠ src → t.srcCount i = s.srcCount i) ∧
    t.evq = (if 2 ^ 32 ≤ v + n then (s.raise (.counterWrap (.source src k))).evq else s.evq) ∧
    t = { s with srcCounts := t.srcCounts, evq := t.evq }) ∧
  (∀ (s : State) (c : Fin 4) (k : ClassCounter),
    let v := ((s.clsCount c).get k).toNat
    let t := s.countClass c k
    ((t.clsCount c).get k).toNat = (v + 1) % 2 ^ 32 ∧ (∀ j, j ≠ k → (t.clsCount c).get j = (s.clsCount c).get j) ∧
    (∀ i, i ≠ c → t.clsCount i = s.clsCount i) ∧
    t.evq = (if 2 ^ 32 ≤ v + 1 then (s.raise (.counterWrap (.cls c k))).evq else s.evq) ∧
    t = { s with clsCounts := t.clsCounts, evq := t.evq }) ∧
  ∀ (s : State) (k : GlobalCounter),
    let v := (s.globCounts.get k).toNat
    let t := s.countGlobal k
    (t.globCounts.get k).toNat = (v + 1) % 2 ^ 32 ∧ (∀ j, j ≠ k → t.globCounts.get j = s.globCounts.get j) ∧
    t.evq = (if 2 ^ 32 ≤ v + 1 then (s.raise (.counterWrap (.global k))).evq else s.evq) ∧
    t = { s with globCounts := t.globCounts, evq := t.evq }

/-! ### Laws that every step keeps -/

/-- The state right after reset meets every law. -/
def Obligations.ResetMeetsTheLaws : Prop :=
  State.reset.TicketLaw ∧ State.reset.BalanceLaw ∧ State.reset.HoldLaw ∧ State.reset.EventLaw ∧ State.reset.CreditLaw ∧
    State.reset.HistogramLaw ∧ State.reset.TimerLaw ∧ State.reset.ClassLaw ∧ State.reset.LiveLaw ∧ State.reset.SlotLaw ∧
    State.reset.LineLaw ∧ State.reset.PortLaw

/-- Every step keeps the ticket count: slots, ACTIVE entries and completions account for the tickets in use, 160 at most. -/
def Obligations.StepKeepsTicketLaw : Prop := ∀ s t : State, s.TicketLaw → step s = .next t → t.TicketLaw

/-- Every step keeps each balance at or below a legal ceiling. -/
def Obligations.StepKeepsBalanceLaw : Prop := ∀ s t : State, s.BalanceLaw → step s = .next t → t.BalanceLaw

/-- Every step keeps the hold-list law: an empty list outside PACED, and a head that the balance does not cover. -/
def Obligations.StepKeepsHoldLaw : Prop := ∀ s t : State, s.HoldLaw → step s = .next t → t.HoldLaw

/-- Every step keeps the event queue: at most 32 records, sequences without a gap, a lost count only while it is full. -/
def Obligations.StepKeepsEventLaw : Prop := ∀ s t : State, s.EventLaw → step s = .next t → t.EventLaw

/-- Every step keeps the credits: each class's credits and entries add up to its default credit while DN_RDY is high. -/
def Obligations.StepKeepsCreditLaw : Prop := ∀ s t : State, s.CreditLaw → step s = .next t → t.CreditLaw

/-- Every step keeps the histograms: COMPLETIONS is the sum of the bins, over legal edges. -/
def Obligations.StepKeepsHistogramLaw : Prop := ∀ s t : State, s.HistogramLaw → step s = .next t → t.HistogramLaw

/-- Every step keeps timers, states and staged copies in agreement, each trigger line's pin, settled level and pending transition, and the management
port: fewer than eight bits of an incomplete byte, command bytes that have not reached the take, nothing received while MCS_N is high or RESET_N is
low, and an ignored period only while MCS_N is low. -/
def Obligations.StepKeepsTimerAndLineLaws : Prop :=
  (∀ s t : State, s.TimerLaw → step s = .next t → t.TimerLaw) ∧ (∀ s t : State, s.LineLaw → step s = .next t → t.LineLaw) ∧
    ∀ s t : State, s.PortLaw → step s = .next t → t.PortLaw

/-- Every step keeps the Request Store: each held request in its source's list, each queued one in the queue of its source's class, and no slot filled
twice. -/
def Obligations.StepKeepsStoreLaws : Prop :=
  (∀ s t : State, s.ClassLaw → step s = .next t → t.ClassLaw) ∧ ∀ s t : State, s.SlotLaw → step s = .next t → t.SlotLaw

/-- Every step keeps the Live Tag Map equal to the pairs of the live requests, each of which has one request. -/
def Obligations.StepKeepsLiveLaw : Prop := ∀ s t : State, s.LiveLaw → step s = .next t → t.LiveLaw

/-! ### Management frames -/

/-- The bytes that send a well-formed management command, with any bytes clocked in after them, are read as that command. At the pins: the eighth rise
of MSCK completes a byte, the first bit received its most significant, and the byte that completes the command is its take; edges of MSCK while MCS_N
is high, or in an ignored period, move the pin only. MDO is at high impedance while MCS_N is high and while RESET_N is low, and changes at a fall of
MSCK: 0 while command bytes come in, and after the take the status byte, M, the M data bytes and then 0x00, most significant bit first. (What it
drives in an ignored period is a free value, log 21.) -/
def Obligations.FrameParserReadsWhatIsSent : Prop :=
  (∀ (i : Instr) (bytes rest : List Byte), i.WellFormed = true → i.frameBytes = some bytes →
    decodeFrame (bytes ++ rest) = some i) ∧
  (∀ v : Byte, byteOfBits [v.getMsbD 0, v.getMsbD 1, v.getMsbD 2, v.getMsbD 3, v.getMsbD 4, v.getMsbD 5, v.getMsbD 6,
    v.getMsbD 7] = v) ∧
  (∀ (s : State) (level : Level), s.resetN = .high →
    s.drive (.mdi level) = .next { s with port := { s.port with mdi := level } } ∧
    (s.port.mcsN = .high ∨ s.portIgnore = true → s.drive (.msck level) = .next { s with port := { s.port with msck := level } })) ∧
  (∀ s : State, s.resetN = .high → s.portIgnore = false → s.port.mcsN = .low → s.port.msck = .low → s.port.sent = none →
    let bits := s.port.bits ++ [decide (s.port.mdi = .high)]
    (bits.length < 8 → reachesTake s.port.bytes = false →
      s.drive (.msck .high) = .next { s with port := { s.port with msck := .high, bits := bits } }) ∧
    (bits.length = 8 →
      let bytes := s.port.bytes ++ [byteOfBits bits]
      (reachesTake bytes = false →
        s.drive (.msck .high) = .next { s with port := { s.port with msck := .high, bits := [], bytes := bytes } }) ∧
      ∀ c, reachesTake bytes = true → decodeFrame bytes = some c →
        s.drive (.msck .high) = exec c { s with port := { s.port with msck := .high, bits := [], bytes := [], sent := some 0 } })) ∧
  (∀ s : State, s.resetN = .high → s.portIgnore = false → s.port.mcsN = .low →
    (∀ n, s.port.msck = .low → s.port.sent = some n →
      s.drive (.msck .high) = .next { s with port := { s.port with msck := .high, sent := some (n + 1) } }) ∧
    (s.port.msck = .high → s.port.sent = none →
      s.drive (.msck .low) = .next { s with port := { s.port with msck := .low, mdo := .low } }) ∧
    ∀ n r, s.port.msck = .high → s.port.sent = some n → s.response = some r →
      let code := match r.status with
        | .ok => 0x00#8
        | .staged => 0x01#8
        | .empty => 0x02#8
        | .badOpcode => 0x10#8
        | .badLength => 0x11#8
        | .badIndex => 0x12#8
        | .badValue => 0x13#8
        | .state => 0x14#8
      let byte := ([code, byteOf r.data.length] ++ r.data).getD (n / 8) 0x00#8
      s.drive (.msck .low) = .next
        { s with port := { s.port with msck := .low, mdo := if byte.getMsbD (n % 8) = true then .high else .low } }) ∧
  ∀ s : State, (s.mdo = none ↔ s.resetN = .low ∨ s.port.mcsN = .high) ∧
    (s.resetN = .high → s.port.mcsN = .low → s.portIgnore = false → s.mdo = some s.port.mdo)
end

