-- ==== Sys2Proof/Laws/State.lean ====
section
/-! SUPPORT. Reading back a state after one of the writes of Machine/Ops.lean: for each write, one lemma for each field it leaves
alone, and for each indexed table the value read at every index. -/

namespace Sys2Proof.Machine
namespace State

/-! ### Fields a write leaves alone -/

section setContract

variable (s : State) (src : Fin 32) (x : Contract)

@[simp] theorem setContract_resetN : (s.setContract src x).resetN = s.resetN := rfl
@[simp] theorem setContract_upRdy : (s.setContract src x).upRdy = s.upRdy := rfl
@[simp] theorem setContract_dnRdyPin : (s.setContract src x).dnRdyPin = s.dnRdyPin := rfl
@[simp] theorem setContract_dnRdy : (s.setContract src x).dnRdy = s.dnRdy := rfl
@[simp] theorem setContract_timeBase : (s.setContract src x).timeBase = s.timeBase := rfl
@[simp] theorem setContract_tickets : (s.setContract src x).tickets = s.tickets := rfl
@[simp] theorem setContract_liveTags : (s.setContract src x).liveTags = s.liveTags := rfl
@[simp] theorem setContract_returnQ : (s.setContract src x).returnQ = s.returnQ := rfl
@[simp] theorem setContract_ulCpl : (s.setContract src x).ulCpl = s.ulCpl := rfl
@[simp] theorem setContract_regions : (s.setContract src x).regions = s.regions := rfl
@[simp] theorem setContract_globals : (s.setContract src x).globals = s.globals := rfl
@[simp] theorem setContract_holds : (s.setContract src x).holds = s.holds := rfl
@[simp] theorem setContract_queues : (s.setContract src x).queues = s.queues := rfl
@[simp] theorem setContract_classes : (s.setContract src x).classes = s.classes := rfl
@[simp] theorem setContract_rotation : (s.setContract src x).rotation = s.rotation := rfl
@[simp] theorem setContract_dlReq : (s.setContract src x).dlReq = s.dlReq := rfl
@[simp] theorem setContract_entries : (s.setContract src x).entries = s.entries := rfl
@[simp] theorem setContract_srcCounts : (s.setContract src x).srcCounts = s.srcCounts := rfl
@[simp] theorem setContract_clsCounts : (s.setContract src x).clsCounts = s.clsCounts := rfl
@[simp] theorem setContract_globCounts : (s.setContract src x).globCounts = s.globCounts := rfl
@[simp] theorem setContract_evq : (s.setContract src x).evq = s.evq := rfl
@[simp] theorem setContract_lines : (s.setContract src x).lines = s.lines := rfl
@[simp] theorem setContract_response : (s.setContract src x).response = s.response := rfl
@[simp] theorem setContract_portIgnore : (s.setContract src x).portIgnore = s.portIgnore := rfl
@[simp] theorem setContract_port : (s.setContract src x).port = s.port := rfl
@[simp] theorem setContract_wire : (s.setContract src x).wire = s.wire := rfl
@[simp] theorem setContract_frameFault : (s.setContract src x).frameFault = s.frameFault := rfl
@[simp] theorem setContract_pending : (s.setContract src x).pending = s.pending := rfl
@[simp] theorem setContract_choices : (s.setContract src x).choices = s.choices := rfl
@[simp] theorem setContract_live (src' : Fin 32) (tag' : Fin 16) : (s.setContract src x).live src' tag' = s.live src' tag' := rfl
@[simp] theorem setContract_region (i' : Fin 16) : (s.setContract src x).region i' = s.region i' := rfl
@[simp] theorem setContract_hold (src' : Fin 32) : (s.setContract src x).hold src' = s.hold src' := rfl
@[simp] theorem setContract_queue (c' : Fin 4) : (s.setContract src x).queue c' = s.queue c' := rfl
@[simp] theorem setContract_cls (c' : Fin 4) : (s.setContract src x).cls c' = s.cls c' := rfl
@[simp] theorem setContract_entry (d' : Fin 64) : (s.setContract src x).entry d' = s.entry d' := rfl
@[simp] theorem setContract_srcCount (src' : Fin 32) : (s.setContract src x).srcCount src' = s.srcCount src' := rfl
@[simp] theorem setContract_clsCount (c' : Fin 4) : (s.setContract src x).clsCount c' = s.clsCount c' := rfl
@[simp] theorem setContract_line (n' : Fin 4) : (s.setContract src x).line n' = s.line n' := rfl

end setContract

section setHold

variable (s : State) (src : Fin 32) (x : List StoredReq)

@[simp] theorem setHold_resetN : (s.setHold src x).resetN = s.resetN := rfl
@[simp] theorem setHold_upRdy : (s.setHold src x).upRdy = s.upRdy := rfl
@[simp] theorem setHold_dnRdyPin : (s.setHold src x).dnRdyPin = s.dnRdyPin := rfl
@[simp] theorem setHold_dnRdy : (s.setHold src x).dnRdy = s.dnRdy := rfl
@[simp] theorem setHold_timeBase : (s.setHold src x).timeBase = s.timeBase := rfl
@[simp] theorem setHold_tickets : (s.setHold src x).tickets = s.tickets := rfl
@[simp] theorem setHold_liveTags : (s.setHold src x).liveTags = s.liveTags := rfl
@[simp] theorem setHold_returnQ : (s.setHold src x).returnQ = s.returnQ := rfl
@[simp] theorem setHold_ulCpl : (s.setHold src x).ulCpl = s.ulCpl := rfl
@[simp] theorem setHold_regions : (s.setHold src x).regions = s.regions := rfl
@[simp] theorem setHold_globals : (s.setHold src x).globals = s.globals := rfl
@[simp] theorem setHold_contracts : (s.setHold src x).contracts = s.contracts := rfl
@[simp] theorem setHold_queues : (s.setHold src x).queues = s.queues := rfl
@[simp] theorem setHold_classes : (s.setHold src x).classes = s.classes := rfl
@[simp] theorem setHold_rotation : (s.setHold src x).rotation = s.rotation := rfl
@[simp] theorem setHold_dlReq : (s.setHold src x).dlReq = s.dlReq := rfl
@[simp] theorem setHold_entries : (s.setHold src x).entries = s.entries := rfl
@[simp] theorem setHold_srcCounts : (s.setHold src x).srcCounts = s.srcCounts := rfl
@[simp] theorem setHold_clsCounts : (s.setHold src x).clsCounts = s.clsCounts := rfl
@[simp] theorem setHold_globCounts : (s.setHold src x).globCounts = s.globCounts := rfl
@[simp] theorem setHold_evq : (s.setHold src x).evq = s.evq := rfl
@[simp] theorem setHold_lines : (s.setHold src x).lines = s.lines := rfl
@[simp] theorem setHold_response : (s.setHold src x).response = s.response := rfl
@[simp] theorem setHold_portIgnore : (s.setHold src x).portIgnore = s.portIgnore := rfl
@[simp] theorem setHold_port : (s.setHold src x).port = s.port := rfl
@[simp] theorem setHold_wire : (s.setHold src x).wire = s.wire := rfl
@[simp] theorem setHold_frameFault : (s.setHold src x).frameFault = s.frameFault := rfl
@[simp] theorem setHold_pending : (s.setHold src x).pending = s.pending := rfl
@[simp] theorem setHold_choices : (s.setHold src x).choices = s.choices := rfl
@[simp] theorem setHold_live (src' : Fin 32) (tag' : Fin 16) : (s.setHold src x).live src' tag' = s.live src' tag' := rfl
@[simp] theorem setHold_region (i' : Fin 16) : (s.setHold src x).region i' = s.region i' := rfl
@[simp] theorem setHold_contract (src' : Fin 32) : (s.setHold src x).contract src' = s.contract src' := rfl
@[simp] theorem setHold_queue (c' : Fin 4) : (s.setHold src x).queue c' = s.queue c' := rfl
@[simp] theorem setHold_cls (c' : Fin 4) : (s.setHold src x).cls c' = s.cls c' := rfl
@[simp] theorem setHold_entry (d' : Fin 64) : (s.setHold src x).entry d' = s.entry d' := rfl
@[simp] theorem setHold_srcCount (src' : Fin 32) : (s.setHold src x).srcCount src' = s.srcCount src' := rfl
@[simp] theorem setHold_clsCount (c' : Fin 4) : (s.setHold src x).clsCount c' = s.clsCount c' := rfl
@[simp] theorem setHold_line (n' : Fin 4) : (s.setHold src x).line n' = s.line n' := rfl

end setHold

section setQueue

variable (s : State) (c : Fin 4) (x : List StoredReq)

@[simp] theorem setQueue_resetN : (s.setQueue c x).resetN = s.resetN := rfl
@[simp] theorem setQueue_upRdy : (s.setQueue c x).upRdy = s.upRdy := rfl
@[simp] theorem setQueue_dnRdyPin : (s.setQueue c x).dnRdyPin = s.dnRdyPin := rfl
@[simp] theorem setQueue_dnRdy : (s.setQueue c x).dnRdy = s.dnRdy := rfl
@[simp] theorem setQueue_timeBase : (s.setQueue c x).timeBase = s.timeBase := rfl
@[simp] theorem setQueue_tickets : (s.setQueue c x).tickets = s.tickets := rfl
@[simp] theorem setQueue_liveTags : (s.setQueue c x).liveTags = s.liveTags := rfl
@[simp] theorem setQueue_returnQ : (s.setQueue c x).returnQ = s.returnQ := rfl
@[simp] theorem setQueue_ulCpl : (s.setQueue c x).ulCpl = s.ulCpl := rfl
@[simp] theorem setQueue_regions : (s.setQueue c x).regions = s.regions := rfl
@[simp] theorem setQueue_globals : (s.setQueue c x).globals = s.globals := rfl
@[simp] theorem setQueue_contracts : (s.setQueue c x).contracts = s.contracts := rfl
@[simp] theorem setQueue_holds : (s.setQueue c x).holds = s.holds := rfl
@[simp] theorem setQueue_classes : (s.setQueue c x).classes = s.classes := rfl
@[simp] theorem setQueue_rotation : (s.setQueue c x).rotation = s.rotation := rfl
@[simp] theorem setQueue_dlReq : (s.setQueue c x).dlReq = s.dlReq := rfl
@[simp] theorem setQueue_entries : (s.setQueue c x).entries = s.entries := rfl
@[simp] theorem setQueue_srcCounts : (s.setQueue c x).srcCounts = s.srcCounts := rfl
@[simp] theorem setQueue_clsCounts : (s.setQueue c x).clsCounts = s.clsCounts := rfl
@[simp] theorem setQueue_globCounts : (s.setQueue c x).globCounts = s.globCounts := rfl
@[simp] theorem setQueue_evq : (s.setQueue c x).evq = s.evq := rfl
@[simp] theorem setQueue_lines : (s.setQueue c x).lines = s.lines := rfl
@[simp] theorem setQueue_response : (s.setQueue c x).response = s.response := rfl
@[simp] theorem setQueue_portIgnore : (s.setQueue c x).portIgnore = s.portIgnore := rfl
@[simp] theorem setQueue_port : (s.setQueue c x).port = s.port := rfl
@[simp] theorem setQueue_wire : (s.setQueue c x).wire = s.wire := rfl
@[simp] theorem setQueue_frameFault : (s.setQueue c x).frameFault = s.frameFault := rfl
@[simp] theorem setQueue_pending : (s.setQueue c x).pending = s.pending := rfl
@[simp] theorem setQueue_choices : (s.setQueue c x).choices = s.choices := rfl
@[simp] theorem setQueue_live (src' : Fin 32) (tag' : Fin 16) : (s.setQueue c x).live src' tag' = s.live src' tag' := rfl
@[simp] theorem setQueue_region (i' : Fin 16) : (s.setQueue c x).region i' = s.region i' := rfl
@[simp] theorem setQueue_contract (src' : Fin 32) : (s.setQueue c x).contract src' = s.contract src' := rfl
@[simp] theorem setQueue_hold (src' : Fin 32) : (s.setQueue c x).hold src' = s.hold src' := rfl
@[simp] theorem setQueue_cls (c' : Fin 4) : (s.setQueue c x).cls c' = s.cls c' := rfl
@[simp] theorem setQueue_entry (d' : Fin 64) : (s.setQueue c x).entry d' = s.entry d' := rfl
@[simp] theorem setQueue_srcCount (src' : Fin 32) : (s.setQueue c x).srcCount src' = s.srcCount src' := rfl
@[simp] theorem setQueue_clsCount (c' : Fin 4) : (s.setQueue c x).clsCount c' = s.clsCount c' := rfl
@[simp] theorem setQueue_line (n' : Fin 4) : (s.setQueue c x).line n' = s.line n' := rfl

end setQueue

section setClass

variable (s : State) (c : Fin 4) (x : ClassRec)

@[simp] theorem setClass_resetN : (s.setClass c x).resetN = s.resetN := rfl
@[simp] theorem setClass_upRdy : (s.setClass c x).upRdy = s.upRdy := rfl
@[simp] theorem setClass_dnRdyPin : (s.setClass c x).dnRdyPin = s.dnRdyPin := rfl
@[simp] theorem setClass_dnRdy : (s.setClass c x).dnRdy = s.dnRdy := rfl
@[simp] theorem setClass_timeBase : (s.setClass c x).timeBase = s.timeBase := rfl
@[simp] theorem setClass_tickets : (s.setClass c x).tickets = s.tickets := rfl
@[simp] theorem setClass_liveTags : (s.setClass c x).liveTags = s.liveTags := rfl
@[simp] theorem setClass_returnQ : (s.setClass c x).returnQ = s.returnQ := rfl
@[simp] theorem setClass_ulCpl : (s.setClass c x).ulCpl = s.ulCpl := rfl
@[simp] theorem setClass_regions : (s.setClass c x).regions = s.regions := rfl
@[simp] theorem setClass_globals : (s.setClass c x).globals = s.globals := rfl
@[simp] theorem setClass_contracts : (s.setClass c x).contracts = s.contracts := rfl
@[simp] theorem setClass_holds : (s.setClass c x).holds = s.holds := rfl
@[simp] theorem setClass_queues : (s.setClass c x).queues = s.queues := rfl
@[simp] theorem setClass_rotation : (s.setClass c x).rotation = s.rotation := rfl
@[simp] theorem setClass_dlReq : (s.setClass c x).dlReq = s.dlReq := rfl
@[simp] theorem setClass_entries : (s.setClass c x).entries = s.entries := rfl
@[simp] theorem setClass_srcCounts : (s.setClass c x).srcCounts = s.srcCounts := rfl
@[simp] theorem setClass_clsCounts : (s.setClass c x).clsCounts = s.clsCounts := rfl
@[simp] theorem setClass_globCounts : (s.setClass c x).globCounts = s.globCounts := rfl
@[simp] theorem setClass_evq : (s.setClass c x).evq = s.evq := rfl
@[simp] theorem setClass_lines : (s.setClass c x).lines = s.lines := rfl
@[simp] theorem setClass_response : (s.setClass c x).response = s.response := rfl
@[simp] theorem setClass_portIgnore : (s.setClass c x).portIgnore = s.portIgnore := rfl
@[simp] theorem setClass_port : (s.setClass c x).port = s.port := rfl
@[simp] theorem setClass_wire : (s.setClass c x).wire = s.wire := rfl
@[simp] theorem setClass_frameFault : (s.setClass c x).frameFault = s.frameFault := rfl
@[simp] theorem setClass_pending : (s.setClass c x).pending = s.pending := rfl
@[simp] theorem setClass_choices : (s.setClass c x).choices = s.choices := rfl
@[simp] theorem setClass_live (src' : Fin 32) (tag' : Fin 16) : (s.setClass c x).live src' tag' = s.live src' tag' := rfl
@[simp] theorem setClass_region (i' : Fin 16) : (s.setClass c x).region i' = s.region i' := rfl
@[simp] theorem setClass_contract (src' : Fin 32) : (s.setClass c x).contract src' = s.contract src' := rfl
@[simp] theorem setClass_hold (src' : Fin 32) : (s.setClass c x).hold src' = s.hold src' := rfl
@[simp] theorem setClass_queue (c' : Fin 4) : (s.setClass c x).queue c' = s.queue c' := rfl
@[simp] theorem setClass_entry (d' : Fin 64) : (s.setClass c x).entry d' = s.entry d' := rfl
@[simp] theorem setClass_srcCount (src' : Fin 32) : (s.setClass c x).srcCount src' = s.srcCount src' := rfl
@[simp] theorem setClass_clsCount (c' : Fin 4) : (s.setClass c x).clsCount c' = s.clsCount c' := rfl
@[simp] theorem setClass_line (n' : Fin 4) : (s.setClass c x).line n' = s.line n' := rfl

end setClass

section setEntry

variable (s : State) (d : Fin 64) (x : Entry)

@[simp] theorem setEntry_resetN : (s.setEntry d x).resetN = s.resetN := rfl
@[simp] theorem setEntry_upRdy : (s.setEntry d x).upRdy = s.upRdy := rfl
@[simp] theorem setEntry_dnRdyPin : (s.setEntry d x).dnRdyPin = s.dnRdyPin := rfl
@[simp] theorem setEntry_dnRdy : (s.setEntry d x).dnRdy = s.dnRdy := rfl
@[simp] theorem setEntry_timeBase : (s.setEntry d x).timeBase = s.timeBase := rfl
@[simp] theorem setEntry_tickets : (s.setEntry d x).tickets = s.tickets := rfl
@[simp] theorem setEntry_liveTags : (s.setEntry d x).liveTags = s.liveTags := rfl
@[simp] theorem setEntry_returnQ : (s.setEntry d x).returnQ = s.returnQ := rfl
@[simp] theorem setEntry_ulCpl : (s.setEntry d x).ulCpl = s.ulCpl := rfl
@[simp] theorem setEntry_regions : (s.setEntry d x).regions = s.regions := rfl
@[simp] theorem setEntry_globals : (s.setEntry d x).globals = s.globals := rfl
@[simp] theorem setEntry_contracts : (s.setEntry d x).contracts = s.contracts := rfl
@[simp] theorem setEntry_holds : (s.setEntry d x).holds = s.holds := rfl
@[simp] theorem setEntry_queues : (s.setEntry d x).queues = s.queues := rfl
@[simp] theorem setEntry_classes : (s.setEntry d x).classes = s.classes := rfl
@[simp] theorem setEntry_rotation : (s.setEntry d x).rotation = s.rotation := rfl
@[simp] theorem setEntry_dlReq : (s.setEntry d x).dlReq = s.dlReq := rfl
@[simp] theorem setEntry_srcCounts : (s.setEntry d x).srcCounts = s.srcCounts := rfl
@[simp] theorem setEntry_clsCounts : (s.setEntry d x).clsCounts = s.clsCounts := rfl
@[simp] theorem setEntry_globCounts : (s.setEntry d x).globCounts = s.globCounts := rfl
@[simp] theorem setEntry_evq : (s.setEntry d x).evq = s.evq := rfl
@[simp] theorem setEntry_lines : (s.setEntry d x).lines = s.lines := rfl
@[simp] theorem setEntry_response : (s.setEntry d x).response = s.response := rfl
@[simp] theorem setEntry_portIgnore : (s.setEntry d x).portIgnore = s.portIgnore := rfl
@[simp] theorem setEntry_port : (s.setEntry d x).port = s.port := rfl
@[simp] theorem setEntry_wire : (s.setEntry d x).wire = s.wire := rfl
@[simp] theorem setEntry_frameFault : (s.setEntry d x).frameFault = s.frameFault := rfl
@[simp] theorem setEntry_pending : (s.setEntry d x).pending = s.pending := rfl
@[simp] theorem setEntry_choices : (s.setEntry d x).choices = s.choices := rfl
@[simp] theorem setEntry_live (src' : Fin 32) (tag' : Fin 16) : (s.setEntry d x).live src' tag' = s.live src' tag' := rfl
@[simp] theorem setEntry_region (i' : Fin 16) : (s.setEntry d x).region i' = s.region i' := rfl
@[simp] theorem setEntry_contract (src' : Fin 32) : (s.setEntry d x).contract src' = s.contract src' := rfl
@[simp] theorem setEntry_hold (src' : Fin 32) : (s.setEntry d x).hold src' = s.hold src' := rfl
@[simp] theorem setEntry_queue (c' : Fin 4) : (s.setEntry d x).queue c' = s.queue c' := rfl
@[simp] theorem setEntry_cls (c' : Fin 4) : (s.setEntry d x).cls c' = s.cls c' := rfl
@[simp] theorem setEntry_srcCount (src' : Fin 32) : (s.setEntry d x).srcCount src' = s.srcCount src' := rfl
@[simp] theorem setEntry_clsCount (c' : Fin 4) : (s.setEntry d x).clsCount c' = s.clsCount c' := rfl
@[simp] theorem setEntry_line (n' : Fin 4) : (s.setEntry d x).line n' = s.line n' := rfl

end setEntry

section setSrcCount

variable (s : State) (src : Fin 32) (x : SourceCounts)

@[simp] theorem setSrcCount_resetN : (s.setSrcCount src x).resetN = s.resetN := rfl
@[simp] theorem setSrcCount_upRdy : (s.setSrcCount src x).upRdy = s.upRdy := rfl
@[simp] theorem setSrcCount_dnRdyPin : (s.setSrcCount src x).dnRdyPin = s.dnRdyPin := rfl
@[simp] theorem setSrcCount_dnRdy : (s.setSrcCount src x).dnRdy = s.dnRdy := rfl
@[simp] theorem setSrcCount_timeBase : (s.setSrcCount src x).timeBase = s.timeBase := rfl
@[simp] theorem setSrcCount_tickets : (s.setSrcCount src x).tickets = s.tickets := rfl
@[simp] theorem setSrcCount_liveTags : (s.setSrcCount src x).liveTags = s.liveTags := rfl
@[simp] theorem setSrcCount_returnQ : (s.setSrcCount src x).returnQ = s.returnQ := rfl
@[simp] theorem setSrcCount_ulCpl : (s.setSrcCount src x).ulCpl = s.ulCpl := rfl
@[simp] theorem setSrcCount_regions : (s.setSrcCount src x).regions = s.regions := rfl
@[simp] theorem setSrcCount_globals : (s.setSrcCount src x).globals = s.globals := rfl
@[simp] theorem setSrcCount_contracts : (s.setSrcCount src x).contracts = s.contracts := rfl
@[simp] theorem setSrcCount_holds : (s.setSrcCount src x).holds = s.holds := rfl
@[simp] theorem setSrcCount_queues : (s.setSrcCount src x).queues = s.queues := rfl
@[simp] theorem setSrcCount_classes : (s.setSrcCount src x).classes = s.classes := rfl
@[simp] theorem setSrcCount_rotation : (s.setSrcCount src x).rotation = s.rotation := rfl
@[simp] theorem setSrcCount_dlReq : (s.setSrcCount src x).dlReq = s.dlReq := rfl
@[simp] theorem setSrcCount_entries : (s.setSrcCount src x).entries = s.entries := rfl
@[simp] theorem setSrcCount_clsCounts : (s.setSrcCount src x).clsCounts = s.clsCounts := rfl
@[simp] theorem setSrcCount_globCounts : (s.setSrcCount src x).globCounts = s.globCounts := rfl
@[simp] theorem setSrcCount_evq : (s.setSrcCount src x).evq = s.evq := rfl
@[simp] theorem setSrcCount_lines : (s.setSrcCount src x).lines = s.lines := rfl
@[simp] theorem setSrcCount_response : (s.setSrcCount src x).response = s.response := rfl
@[simp] theorem setSrcCount_portIgnore : (s.setSrcCount src x).portIgnore = s.portIgnore := rfl
@[simp] theorem setSrcCount_port : (s.setSrcCount src x).port = s.port := rfl
@[simp] theorem setSrcCount_wire : (s.setSrcCount src x).wire = s.wire := rfl
@[simp] theorem setSrcCount_frameFault : (s.setSrcCount src x).frameFault = s.frameFault := rfl
@[simp] theorem setSrcCount_pending : (s.setSrcCount src x).pending = s.pending := rfl
@[simp] theorem setSrcCount_choices : (s.setSrcCount src x).choices = s.choices := rfl
@[simp] theorem setSrcCount_live (src' : Fin 32) (tag' : Fin 16) : (s.setSrcCount src x).live src' tag' = s.live src' tag' := rfl
@[simp] theorem setSrcCount_region (i' : Fin 16) : (s.setSrcCount src x).region i' = s.region i' := rfl
@[simp] theorem setSrcCount_contract (src' : Fin 32) : (s.setSrcCount src x).contract src' = s.contract src' := rfl
@[simp] theorem setSrcCount_hold (src' : Fin 32) : (s.setSrcCount src x).hold src' = s.hold src' := rfl
@[simp] theorem setSrcCount_queue (c' : Fin 4) : (s.setSrcCount src x).queue c' = s.queue c' := rfl
@[simp] theorem setSrcCount_cls (c' : Fin 4) : (s.setSrcCount src x).cls c' = s.cls c' := rfl
@[simp] theorem setSrcCount_entry (d' : Fin 64) : (s.setSrcCount src x).entry d' = s.entry d' := rfl
@[simp] theorem setSrcCount_clsCount (c' : Fin 4) : (s.setSrcCount src x).clsCount c' = s.clsCount c' := rfl
@[simp] theorem setSrcCount_line (n' : Fin 4) : (s.setSrcCount src x).line n' = s.line n' := rfl

end setSrcCount

section setClsCount

variable (s : State) (c : Fin 4) (x : ClassCounts)

@[simp] theorem setClsCount_resetN : (s.setClsCount c x).resetN = s.resetN := rfl
@[simp] theorem setClsCount_upRdy : (s.setClsCount c x).upRdy = s.upRdy := rfl
@[simp] theorem setClsCount_dnRdyPin : (s.setClsCount c x).dnRdyPin = s.dnRdyPin := rfl
@[simp] theorem setClsCount_dnRdy : (s.setClsCount c x).dnRdy = s.dnRdy := rfl
@[simp] theorem setClsCount_timeBase : (s.setClsCount c x).timeBase = s.timeBase := rfl
@[simp] theorem setClsCount_tickets : (s.setClsCount c x).tickets = s.tickets := rfl
@[simp] theorem setClsCount_liveTags : (s.setClsCount c x).liveTags = s.liveTags := rfl
@[simp] theorem setClsCount_returnQ : (s.setClsCount c x).returnQ = s.returnQ := rfl
@[simp] theorem setClsCount_ulCpl : (s.setClsCount c x).ulCpl = s.ulCpl := rfl
@[simp] theorem setClsCount_regions : (s.setClsCount c x).regions = s.regions := rfl
@[simp] theorem setClsCount_globals : (s.setClsCount c x).globals = s.globals := rfl
@[simp] theorem setClsCount_contracts : (s.setClsCount c x).contracts = s.contracts := rfl
@[simp] theorem setClsCount_holds : (s.setClsCount c x).holds = s.holds := rfl
@[simp] theorem setClsCount_queues : (s.setClsCount c x).queues = s.queues := rfl
@[simp] theorem setClsCount_classes : (s.setClsCount c x).classes = s.classes := rfl
@[simp] theorem setClsCount_rotation : (s.setClsCount c x).rotation = s.rotation := rfl
@[simp] theorem setClsCount_dlReq : (s.setClsCount c x).dlReq = s.dlReq := rfl
@[simp] theorem setClsCount_entries : (s.setClsCount c x).entries = s.entries := rfl
@[simp] theorem setClsCount_srcCounts : (s.setClsCount c x).srcCounts = s.srcCounts := rfl
@[simp] theorem setClsCount_globCounts : (s.setClsCount c x).globCounts = s.globCounts := rfl
@[simp] theorem setClsCount_evq : (s.setClsCount c x).evq = s.evq := rfl
@[simp] theorem setClsCount_lines : (s.setClsCount c x).lines = s.lines := rfl
@[simp] theorem setClsCount_response : (s.setClsCount c x).response = s.response := rfl
@[simp] theorem setClsCount_portIgnore : (s.setClsCount c x).portIgnore = s.portIgnore := rfl
@[simp] theorem setClsCount_port : (s.setClsCount c x).port = s.port := rfl
@[simp] theorem setClsCount_wire : (s.setClsCount c x).wire = s.wire := rfl
@[simp] theorem setClsCount_frameFault : (s.setClsCount c x).frameFault = s.frameFault := rfl
@[simp] theorem setClsCount_pending : (s.setClsCount c x).pending = s.pending := rfl
@[simp] theorem setClsCount_choices : (s.setClsCount c x).choices = s.choices := rfl
@[simp] theorem setClsCount_live (src' : Fin 32) (tag' : Fin 16) : (s.setClsCount c x).live src' tag' = s.live src' tag' := rfl
@[simp] theorem setClsCount_region (i' : Fin 16) : (s.setClsCount c x).region i' = s.region i' := rfl
@[simp] theorem setClsCount_contract (src' : Fin 32) : (s.setClsCount c x).contract src' = s.contract src' := rfl
@[simp] theorem setClsCount_hold (src' : Fin 32) : (s.setClsCount c x).hold src' = s.hold src' := rfl
@[simp] theorem setClsCount_queue (c' : Fin 4) : (s.setClsCount c x).queue c' = s.queue c' := rfl
@[simp] theorem setClsCount_cls (c' : Fin 4) : (s.setClsCount c x).cls c' = s.cls c' := rfl
@[simp] theorem setClsCount_entry (d' : Fin 64) : (s.setClsCount c x).entry d' = s.entry d' := rfl
@[simp] theorem setClsCount_srcCount (src' : Fin 32) : (s.setClsCount c x).srcCount src' = s.srcCount src' := rfl
@[simp] theorem setClsCount_line (n' : Fin 4) : (s.setClsCount c x).line n' = s.line n' := rfl

end setClsCount

section setLine

variable (s : State) (n : Fin 4) (x : Line)

@[simp] theorem setLine_resetN : (s.setLine n x).resetN = s.resetN := rfl
@[simp] theorem setLine_upRdy : (s.setLine n x).upRdy = s.upRdy := rfl
@[simp] theorem setLine_dnRdyPin : (s.setLine n x).dnRdyPin = s.dnRdyPin := rfl
@[simp] theorem setLine_dnRdy : (s.setLine n x).dnRdy = s.dnRdy := rfl
@[simp] theorem setLine_timeBase : (s.setLine n x).timeBase = s.timeBase := rfl
@[simp] theorem setLine_tickets : (s.setLine n x).tickets = s.tickets := rfl
@[simp] theorem setLine_liveTags : (s.setLine n x).liveTags = s.liveTags := rfl
@[simp] theorem setLine_returnQ : (s.setLine n x).returnQ = s.returnQ := rfl
@[simp] theorem setLine_ulCpl : (s.setLine n x).ulCpl = s.ulCpl := rfl
@[simp] theorem setLine_regions : (s.setLine n x).regions = s.regions := rfl
@[simp] theorem setLine_globals : (s.setLine n x).globals = s.globals := rfl
@[simp] theorem setLine_contracts : (s.setLine n x).contracts = s.contracts := rfl
@[simp] theorem setLine_holds : (s.setLine n x).holds = s.holds := rfl
@[simp] theorem setLine_queues : (s.setLine n x).queues = s.queues := rfl
@[simp] theorem setLine_classes : (s.setLine n x).classes = s.classes := rfl
@[simp] theorem setLine_rotation : (s.setLine n x).rotation = s.rotation := rfl
@[simp] theorem setLine_dlReq : (s.setLine n x).dlReq = s.dlReq := rfl
@[simp] theorem setLine_entries : (s.setLine n x).entries = s.entries := rfl
@[simp] theorem setLine_srcCounts : (s.setLine n x).srcCounts = s.srcCounts := rfl
@[simp] theorem setLine_clsCounts : (s.setLine n x).clsCounts = s.clsCounts := rfl
@[simp] theorem setLine_globCounts : (s.setLine n x).globCounts = s.globCounts := rfl
@[simp] theorem setLine_evq : (s.setLine n x).evq = s.evq := rfl
@[simp] theorem setLine_response : (s.setLine n x).response = s.response := rfl
@[simp] theorem setLine_portIgnore : (s.setLine n x).portIgnore = s.portIgnore := rfl
@[simp] theorem setLine_port : (s.setLine n x).port = s.port := rfl
@[simp] theorem setLine_wire : (s.setLine n x).wire = s.wire := rfl
@[simp] theorem setLine_frameFault : (s.setLine n x).frameFault = s.frameFault := rfl
@[simp] theorem setLine_pending : (s.setLine n x).pending = s.pending := rfl
@[simp] theorem setLine_choices : (s.setLine n x).choices = s.choices := rfl
@[simp] theorem setLine_live (src' : Fin 32) (tag' : Fin 16) : (s.setLine n x).live src' tag' = s.live src' tag' := rfl
@[simp] theorem setLine_region (i' : Fin 16) : (s.setLine n x).region i' = s.region i' := rfl
@[simp] theorem setLine_contract (src' : Fin 32) : (s.setLine n x).contract src' = s.contract src' := rfl
@[simp] theorem setLine_hold (src' : Fin 32) : (s.setLine n x).hold src' = s.hold src' := rfl
@[simp] theorem setLine_queue (c' : Fin 4) : (s.setLine n x).queue c' = s.queue c' := rfl
@[simp] theorem setLine_cls (c' : Fin 4) : (s.setLine n x).cls c' = s.cls c' := rfl
@[simp] theorem setLine_entry (d' : Fin 64) : (s.setLine n x).entry d' = s.entry d' := rfl
@[simp] theorem setLine_srcCount (src' : Fin 32) : (s.setLine n x).srcCount src' = s.srcCount src' := rfl
@[simp] theorem setLine_clsCount (c' : Fin 4) : (s.setLine n x).clsCount c' = s.clsCount c' := rfl

end setLine

section setRegion

variable (s : State) (i : Fin 16) (x : Region)

@[simp] theorem setRegion_resetN : (s.setRegion i x).resetN = s.resetN := rfl
@[simp] theorem setRegion_upRdy : (s.setRegion i x).upRdy = s.upRdy := rfl
@[simp] theorem setRegion_dnRdyPin : (s.setRegion i x).dnRdyPin = s.dnRdyPin := rfl
@[simp] theorem setRegion_dnRdy : (s.setRegion i x).dnRdy = s.dnRdy := rfl
@[simp] theorem setRegion_timeBase : (s.setRegion i x).timeBase = s.timeBase := rfl
@[simp] theorem setRegion_tickets : (s.setRegion i x).tickets = s.tickets := rfl
@[simp] theorem setRegion_liveTags : (s.setRegion i x).liveTags = s.liveTags := rfl
@[simp] theorem setRegion_returnQ : (s.setRegion i x).returnQ = s.returnQ := rfl
@[simp] theorem setRegion_ulCpl : (s.setRegion i x).ulCpl = s.ulCpl := rfl
@[simp] theorem setRegion_globals : (s.setRegion i x).globals = s.globals := rfl
@[simp] theorem setRegion_contracts : (s.setRegion i x).contracts = s.contracts := rfl
@[simp] theorem setRegion_holds : (s.setRegion i x).holds = s.holds := rfl
@[simp] theorem setRegion_queues : (s.setRegion i x).queues = s.queues := rfl
@[simp] theorem setRegion_classes : (s.setRegion i x).classes = s.classes := rfl
@[simp] theorem setRegion_rotation : (s.setRegion i x).rotation = s.rotation := rfl
@[simp] theorem setRegion_dlReq : (s.setRegion i x).dlReq = s.dlReq := rfl
@[simp] theorem setRegion_entries : (s.setRegion i x).entries = s.entries := rfl
@[simp] theorem setRegion_srcCounts : (s.setRegion i x).srcCounts = s.srcCounts := rfl
@[simp] theorem setRegion_clsCounts : (s.setRegion i x).clsCounts = s.clsCounts := rfl
@[simp] theorem setRegion_globCounts : (s.setRegion i x).globCounts = s.globCounts := rfl
@[simp] theorem setRegion_evq : (s.setRegion i x).evq = s.evq := rfl
@[simp] theorem setRegion_lines : (s.setRegion i x).lines = s.lines := rfl
@[simp] theorem setRegion_response : (s.setRegion i x).response = s.response := rfl
@[simp] theorem setRegion_portIgnore : (s.setRegion i x).portIgnore = s.portIgnore := rfl
@[simp] theorem setRegion_port : (s.setRegion i x).port = s.port := rfl
@[simp] theorem setRegion_wire : (s.setRegion i x).wire = s.wire := rfl
@[simp] theorem setRegion_frameFault : (s.setRegion i x).frameFault = s.frameFault := rfl
@[simp] theorem setRegion_pending : (s.setRegion i x).pending = s.pending := rfl
@[simp] theorem setRegion_choices : (s.setRegion i x).choices = s.choices := rfl
@[simp] theorem setRegion_live (src' : Fin 32) (tag' : Fin 16) : (s.setRegion i x).live src' tag' = s.live src' tag' := rfl
@[simp] theorem setRegion_contract (src' : Fin 32) : (s.setRegion i x).contract src' = s.contract src' := rfl
@[simp] theorem setRegion_hold (src' : Fin 32) : (s.setRegion i x).hold src' = s.hold src' := rfl
@[simp] theorem setRegion_queue (c' : Fin 4) : (s.setRegion i x).queue c' = s.queue c' := rfl
@[simp] theorem setRegion_cls (c' : Fin 4) : (s.setRegion i x).cls c' = s.cls c' := rfl
@[simp] theorem setRegion_entry (d' : Fin 64) : (s.setRegion i x).entry d' = s.entry d' := rfl
@[simp] theorem setRegion_srcCount (src' : Fin 32) : (s.setRegion i x).srcCount src' = s.srcCount src' := rfl
@[simp] theorem setRegion_clsCount (c' : Fin 4) : (s.setRegion i x).clsCount c' = s.clsCount c' := rfl
@[simp] theorem setRegion_line (n' : Fin 4) : (s.setRegion i x).line n' = s.line n' := rfl

end setRegion

section setLive

variable (s : State) (src : Fin 32) (tag : Fin 16) (b : Bool)

@[simp] theorem setLive_resetN : (s.setLive src tag b).resetN = s.resetN := rfl
@[simp] theorem setLive_upRdy : (s.setLive src tag b).upRdy = s.upRdy := rfl
@[simp] theorem setLive_dnRdyPin : (s.setLive src tag b).dnRdyPin = s.dnRdyPin := rfl
@[simp] theorem setLive_dnRdy : (s.setLive src tag b).dnRdy = s.dnRdy := rfl
@[simp] theorem setLive_timeBase : (s.setLive src tag b).timeBase = s.timeBase := rfl
@[simp] theorem setLive_tickets : (s.setLive src tag b).tickets = s.tickets := rfl
@[simp] theorem setLive_returnQ : (s.setLive src tag b).returnQ = s.returnQ := rfl
@[simp] theorem setLive_ulCpl : (s.setLive src tag b).ulCpl = s.ulCpl := rfl
@[simp] theorem setLive_regions : (s.setLive src tag b).regions = s.regions := rfl
@[simp] theorem setLive_globals : (s.setLive src tag b).globals = s.globals := rfl
@[simp] theorem setLive_contracts : (s.setLive src tag b).contracts = s.contracts := rfl
@[simp] theorem setLive_holds : (s.setLive src tag b).holds = s.holds := rfl
@[simp] theorem setLive_queues : (s.setLive src tag b).queues = s.queues := rfl
@[simp] theorem setLive_classes : (s.setLive src tag b).classes = s.classes := rfl
@[simp] theorem setLive_rotation : (s.setLive src tag b).rotation = s.rotation := rfl
@[simp] theorem setLive_dlReq : (s.setLive src tag b).dlReq = s.dlReq := rfl
@[simp] theorem setLive_entries : (s.setLive src tag b).entries = s.entries := rfl
@[simp] theorem setLive_srcCounts : (s.setLive src tag b).srcCounts = s.srcCounts := rfl
@[simp] theorem setLive_clsCounts : (s.setLive src tag b).clsCounts = s.clsCounts := rfl
@[simp] theorem setLive_globCounts : (s.setLive src tag b).globCounts = s.globCounts := rfl
@[simp] theorem setLive_evq : (s.setLive src tag b).evq = s.evq := rfl
@[simp] theorem setLive_lines : (s.setLive src tag b).lines = s.lines := rfl
@[simp] theorem setLive_response : (s.setLive src tag b).response = s.response := rfl
@[simp] theorem setLive_portIgnore : (s.setLive src tag b).portIgnore = s.portIgnore := rfl
@[simp] theorem setLive_port : (s.setLive src tag b).port = s.port := rfl
@[simp] theorem setLive_wire : (s.setLive src tag b).wire = s.wire := rfl
@[simp] theorem setLive_frameFault : (s.setLive src tag b).frameFault = s.frameFault := rfl
@[simp] theorem setLive_pending : (s.setLive src tag b).pending = s.pending := rfl
@[simp] theorem setLive_choices : (s.setLive src tag b).choices = s.choices := rfl
@[simp] theorem setLive_region (i' : Fin 16) : (s.setLive src tag b).region i' = s.region i' := rfl
@[simp] theorem setLive_contract (src' : Fin 32) : (s.setLive src tag b).contract src' = s.contract src' := rfl
@[simp] theorem setLive_hold (src' : Fin 32) : (s.setLive src tag b).hold src' = s.hold src' := rfl
@[simp] theorem setLive_queue (c' : Fin 4) : (s.setLive src tag b).queue c' = s.queue c' := rfl
@[simp] theorem setLive_cls (c' : Fin 4) : (s.setLive src tag b).cls c' = s.cls c' := rfl
@[simp] theorem setLive_entry (d' : Fin 64) : (s.setLive src tag b).entry d' = s.entry d' := rfl
@[simp] theorem setLive_srcCount (src' : Fin 32) : (s.setLive src tag b).srcCount src' = s.srcCount src' := rfl
@[simp] theorem setLive_clsCount (c' : Fin 4) : (s.setLive src tag b).clsCount c' = s.clsCount c' := rfl
@[simp] theorem setLive_line (n' : Fin 4) : (s.setLive src tag b).line n' = s.line n' := rfl

end setLive

section joinReturn

variable (s : State) (x : Completion)

@[simp] theorem joinReturn_resetN : (s.joinReturn x).resetN = s.resetN := rfl
@[simp] theorem joinReturn_upRdy : (s.joinReturn x).upRdy = s.upRdy := rfl
@[simp] theorem joinReturn_dnRdyPin : (s.joinReturn x).dnRdyPin = s.dnRdyPin := rfl
@[simp] theorem joinReturn_dnRdy : (s.joinReturn x).dnRdy = s.dnRdy := rfl
@[simp] theorem joinReturn_timeBase : (s.joinReturn x).timeBase = s.timeBase := rfl
@[simp] theorem joinReturn_tickets : (s.joinReturn x).tickets = s.tickets := rfl
@[simp] theorem joinReturn_liveTags : (s.joinReturn x).liveTags = s.liveTags := rfl
@[simp] theorem joinReturn_ulCpl : (s.joinReturn x).ulCpl = s.ulCpl := rfl
@[simp] theorem joinReturn_regions : (s.joinReturn x).regions = s.regions := rfl
@[simp] theorem joinReturn_globals : (s.joinReturn x).globals = s.globals := rfl
@[simp] theorem joinReturn_contracts : (s.joinReturn x).contracts = s.contracts := rfl
@[simp] theorem joinReturn_holds : (s.joinReturn x).holds = s.holds := rfl
@[simp] theorem joinReturn_queues : (s.joinReturn x).queues = s.queues := rfl
@[simp] theorem joinReturn_classes : (s.joinReturn x).classes = s.classes := rfl
@[simp] theorem joinReturn_rotation : (s.joinReturn x).rotation = s.rotation := rfl
@[simp] theorem joinReturn_dlReq : (s.joinReturn x).dlReq = s.dlReq := rfl
@[simp] theorem joinReturn_entries : (s.joinReturn x).entries = s.entries := rfl
@[simp] theorem joinReturn_srcCounts : (s.joinReturn x).srcCounts = s.srcCounts := rfl
@[simp] theorem joinReturn_clsCounts : (s.joinReturn x).clsCounts = s.clsCounts := rfl
@[simp] theorem joinReturn_globCounts : (s.joinReturn x).globCounts = s.globCounts := rfl
@[simp] theorem joinReturn_evq : (s.joinReturn x).evq = s.evq := rfl
@[simp] theorem joinReturn_lines : (s.joinReturn x).lines = s.lines := rfl
@[simp] theorem joinReturn_response : (s.joinReturn x).response = s.response := rfl
@[simp] theorem joinReturn_portIgnore : (s.joinReturn x).portIgnore = s.portIgnore := rfl
@[simp] theorem joinReturn_port : (s.joinReturn x).port = s.port := rfl
@[simp] theorem joinReturn_wire : (s.joinReturn x).wire = s.wire := rfl
@[simp] theorem joinReturn_frameFault : (s.joinReturn x).frameFault = s.frameFault := rfl
@[simp] theorem joinReturn_pending : (s.joinReturn x).pending = s.pending := rfl
@[simp] theorem joinReturn_choices : (s.joinReturn x).choices = s.choices := rfl
@[simp] theorem joinReturn_live (src' : Fin 32) (tag' : Fin 16) : (s.joinReturn x).live src' tag' = s.live src' tag' := rfl
@[simp] theorem joinReturn_region (i' : Fin 16) : (s.joinReturn x).region i' = s.region i' := rfl
@[simp] theorem joinReturn_contract (src' : Fin 32) : (s.joinReturn x).contract src' = s.contract src' := rfl
@[simp] theorem joinReturn_hold (src' : Fin 32) : (s.joinReturn x).hold src' = s.hold src' := rfl
@[simp] theorem joinReturn_queue (c' : Fin 4) : (s.joinReturn x).queue c' = s.queue c' := rfl
@[simp] theorem joinReturn_cls (c' : Fin 4) : (s.joinReturn x).cls c' = s.cls c' := rfl
@[simp] theorem joinReturn_entry (d' : Fin 64) : (s.joinReturn x).entry d' = s.entry d' := rfl
@[simp] theorem joinReturn_srcCount (src' : Fin 32) : (s.joinReturn x).srcCount src' = s.srcCount src' := rfl
@[simp] theorem joinReturn_clsCount (c' : Fin 4) : (s.joinReturn x).clsCount c' = s.clsCount c' := rfl
@[simp] theorem joinReturn_line (n' : Fin 4) : (s.joinReturn x).line n' = s.line n' := rfl

end joinReturn

section abortList

variable (s : State) (x : List StoredReq)

@[simp] theorem abortList_resetN : (s.abortList x).resetN = s.resetN := rfl
@[simp] theorem abortList_upRdy : (s.abortList x).upRdy = s.upRdy := rfl
@[simp] theorem abortList_dnRdyPin : (s.abortList x).dnRdyPin = s.dnRdyPin := rfl
@[simp] theorem abortList_dnRdy : (s.abortList x).dnRdy = s.dnRdy := rfl
@[simp] theorem abortList_timeBase : (s.abortList x).timeBase = s.timeBase := rfl
@[simp] theorem abortList_tickets : (s.abortList x).tickets = s.tickets := rfl
@[simp] theorem abortList_liveTags : (s.abortList x).liveTags = s.liveTags := rfl
@[simp] theorem abortList_ulCpl : (s.abortList x).ulCpl = s.ulCpl := rfl
@[simp] theorem abortList_regions : (s.abortList x).regions = s.regions := rfl
@[simp] theorem abortList_globals : (s.abortList x).globals = s.globals := rfl
@[simp] theorem abortList_contracts : (s.abortList x).contracts = s.contracts := rfl
@[simp] theorem abortList_holds : (s.abortList x).holds = s.holds := rfl
@[simp] theorem abortList_queues : (s.abortList x).queues = s.queues := rfl
@[simp] theorem abortList_classes : (s.abortList x).classes = s.classes := rfl
@[simp] theorem abortList_rotation : (s.abortList x).rotation = s.rotation := rfl
@[simp] theorem abortList_dlReq : (s.abortList x).dlReq = s.dlReq := rfl
@[simp] theorem abortList_entries : (s.abortList x).entries = s.entries := rfl
@[simp] theorem abortList_srcCounts : (s.abortList x).srcCounts = s.srcCounts := rfl
@[simp] theorem abortList_clsCounts : (s.abortList x).clsCounts = s.clsCounts := rfl
@[simp] theorem abortList_globCounts : (s.abortList x).globCounts = s.globCounts := rfl
@[simp] theorem abortList_evq : (s.abortList x).evq = s.evq := rfl
@[simp] theorem abortList_lines : (s.abortList x).lines = s.lines := rfl
@[simp] theorem abortList_response : (s.abortList x).response = s.response := rfl
@[simp] theorem abortList_portIgnore : (s.abortList x).portIgnore = s.portIgnore := rfl
@[simp] theorem abortList_port : (s.abortList x).port = s.port := rfl
@[simp] theorem abortList_wire : (s.abortList x).wire = s.wire := rfl
@[simp] theorem abortList_frameFault : (s.abortList x).frameFault = s.frameFault := rfl
@[simp] theorem abortList_pending : (s.abortList x).pending = s.pending := rfl
@[simp] theorem abortList_choices : (s.abortList x).choices = s.choices := rfl
@[simp] theorem abortList_live (src' : Fin 32) (tag' : Fin 16) : (s.abortList x).live src' tag' = s.live src' tag' := rfl
@[simp] theorem abortList_region (i' : Fin 16) : (s.abortList x).region i' = s.region i' := rfl
@[simp] theorem abortList_contract (src' : Fin 32) : (s.abortList x).contract src' = s.contract src' := rfl
@[simp] theorem abortList_hold (src' : Fin 32) : (s.abortList x).hold src' = s.hold src' := rfl
@[simp] theorem abortList_queue (c' : Fin 4) : (s.abortList x).queue c' = s.queue c' := rfl
@[simp] theorem abortList_cls (c' : Fin 4) : (s.abortList x).cls c' = s.cls c' := rfl
@[simp] theorem abortList_entry (d' : Fin 64) : (s.abortList x).entry d' = s.entry d' := rfl
@[simp] theorem abortList_srcCount (src' : Fin 32) : (s.abortList x).srcCount src' = s.srcCount src' := rfl
@[simp] theorem abortList_clsCount (c' : Fin 4) : (s.abortList x).clsCount c' = s.clsCount c' := rfl
@[simp] theorem abortList_line (n' : Fin 4) : (s.abortList x).line n' = s.line n' := rfl

end abortList

/-! ### Tables read back at an index -/

theorem setContract_contract (s : State) (src src' : Fin 32) (x : Contract) :
    (s.setContract src x).contract src' = if src' = src then x else s.contract src' := by
  simp only [setContract, contract, Fin.getElem_fin, Vector.getElem_set, Fin.val_inj, eq_comm (a := src)]

@[simp] theorem setContract_contract_self (s : State) (src : Fin 32) (x : Contract) : (s.setContract src x).contract src = x := by
  simp [setContract_contract]

@[simp] theorem setContract_contract_ne (s : State) (src src' : Fin 32) (x : Contract) (h : src' ≠ src) :
    (s.setContract src x).contract src' = s.contract src' := by
  simp [setContract_contract, h]

theorem setHold_hold (s : State) (src src' : Fin 32) (x : List StoredReq) :
    (s.setHold src x).hold src' = if src' = src then x else s.hold src' := by
  simp only [setHold, hold, Fin.getElem_fin, Vector.getElem_set, Fin.val_inj, eq_comm (a := src)]

@[simp] theorem setHold_hold_self (s : State) (src : Fin 32) (x : List StoredReq) : (s.setHold src x).hold src = x := by
  simp [setHold_hold]

@[simp] theorem setHold_hold_ne (s : State) (src src' : Fin 32) (x : List StoredReq) (h : src' ≠ src) :
    (s.setHold src x).hold src' = s.hold src' := by
  simp [setHold_hold, h]

theorem setQueue_queue (s : State) (c c' : Fin 4) (x : List StoredReq) :
    (s.setQueue c x).queue c' = if c' = c then x else s.queue c' := by
  simp only [setQueue, queue, Fin.getElem_fin, Vector.getElem_set, Fin.val_inj, eq_comm (a := c)]

@[simp] theorem setQueue_queue_self (s : State) (c : Fin 4) (x : List StoredReq) : (s.setQueue c x).queue c = x := by
  simp [setQueue_queue]

@[simp] theorem setQueue_queue_ne (s : State) (c c' : Fin 4) (x : List StoredReq) (h : c' ≠ c) :
    (s.setQueue c x).queue c' = s.queue c' := by
  simp [setQueue_queue, h]

theorem setClass_cls (s : State) (c c' : Fin 4) (x : ClassRec) :
    (s.setClass c x).cls c' = if c' = c then x else s.cls c' := by
  simp only [setClass, cls, Fin.getElem_fin, Vector.getElem_set, Fin.val_inj, eq_comm (a := c)]

@[simp] theorem setClass_cls_self (s : State) (c : Fin 4) (x : ClassRec) : (s.setClass c x).cls c = x := by
  simp [setClass_cls]

@[simp] theorem setClass_cls_ne (s : State) (c c' : Fin 4) (x : ClassRec) (h : c' ≠ c) :
    (s.setClass c x).cls c' = s.cls c' := by
  simp [setClass_cls, h]

theorem setEntry_entry (s : State) (d d' : Fin 64) (x : Entry) :
    (s.setEntry d x).entry d' = if d' = d then x else s.entry d' := by
  simp only [setEntry, entry, Fin.getElem_fin, Vector.getElem_set, Fin.val_inj, eq_comm (a := d)]

@[simp] theorem setEntry_entry_self (s : State) (d : Fin 64) (x : Entry) : (s.setEntry d x).entry d = x := by
  simp [setEntry_entry]

@[simp] theorem setEntry_entry_ne (s : State) (d d' : Fin 64) (x : Entry) (h : d' ≠ d) :
    (s.setEntry d x).entry d' = s.entry d' := by
  simp [setEntry_entry, h]

theorem setSrcCount_srcCount (s : State) (src src' : Fin 32) (x : SourceCounts) :
    (s.setSrcCount src x).srcCount src' = if src' = src then x else s.srcCount src' := by
  simp only [setSrcCount, srcCount, Fin.getElem_fin, Vector.getElem_set, Fin.val_inj, eq_comm (a := src)]

@[simp] theorem setSrcCount_srcCount_self (s : State) (src : Fin 32) (x : SourceCounts) : (s.setSrcCount src x).srcCount src = x := by
  simp [setSrcCount_srcCount]

@[simp] theorem setSrcCount_srcCount_ne (s : State) (src src' : Fin 32) (x : SourceCounts) (h : src' ≠ src) :
    (s.setSrcCount src x).srcCount src' = s.srcCount src' := by
  simp [setSrcCount_srcCount, h]

theorem setClsCount_clsCount (s : State) (c c' : Fin 4) (x : ClassCounts) :
    (s.setClsCount c x).clsCount c' = if c' = c then x else s.clsCount c' := by
  simp only [setClsCount, clsCount, Fin.getElem_fin, Vector.getElem_set, Fin.val_inj, eq_comm (a := c)]

@[simp] theorem setClsCount_clsCount_self (s : State) (c : Fin 4) (x : ClassCounts) : (s.setClsCount c x).clsCount c = x := by
  simp [setClsCount_clsCount]

@[simp] theorem setClsCount_clsCount_ne (s : State) (c c' : Fin 4) (x : ClassCounts) (h : c' ≠ c) :
    (s.setClsCount c x).clsCount c' = s.clsCount c' := by
  simp [setClsCount_clsCount, h]

theorem setLine_line (s : State) (n n' : Fin 4) (x : Line) :
    (s.setLine n x).line n' = if n' = n then x else s.line n' := by
  simp only [setLine, line, Fin.getElem_fin, Vector.getElem_set, Fin.val_inj, eq_comm (a := n)]

@[simp] theorem setLine_line_self (s : State) (n : Fin 4) (x : Line) : (s.setLine n x).line n = x := by
  simp [setLine_line]

@[simp] theorem setLine_line_ne (s : State) (n n' : Fin 4) (x : Line) (h : n' ≠ n) :
    (s.setLine n x).line n' = s.line n' := by
  simp [setLine_line, h]

theorem setRegion_region (s : State) (i i' : Fin 16) (x : Region) :
    (s.setRegion i x).region i' = if i' = i then x else s.region i' := by
  simp only [setRegion, region, Fin.getElem_fin, Vector.getElem_set, Fin.val_inj, eq_comm (a := i)]

@[simp] theorem setRegion_region_self (s : State) (i : Fin 16) (x : Region) : (s.setRegion i x).region i = x := by
  simp [setRegion_region]

@[simp] theorem setRegion_region_ne (s : State) (i i' : Fin 16) (x : Region) (h : i' ≠ i) :
    (s.setRegion i x).region i' = s.region i' := by
  simp [setRegion_region, h]

theorem setLive_live (s : State) (src src' : Fin 32) (tag tag' : Fin 16) (b : Bool) :
    (s.setLive src tag b).live src' tag' = if src' = src ∧ tag' = tag then b else s.live src' tag' := by
  simp only [setLive, live, Fin.getElem_fin, Vector.getElem_set, Fin.val_inj, eq_comm (a := src)]
  by_cases h : src' = src
  · subst h
    simp [Vector.getElem_set, Fin.val_inj, eq_comm (a := tag)]
  · simp [h]

@[simp] theorem joinReturn_returnQ (s : State) (x : Completion) : (s.joinReturn x).returnQ = s.returnQ ++ [x] := rfl

@[simp] theorem abortList_returnQ (s : State) (x : List StoredReq) :
    (s.abortList x).returnQ = s.returnQ ++ x.map fun r => bareCompletion r.source (wireTag r.tag) .aborted := rfl

/-! ### Equal tables -/

/-- Two states with equal fields are equal; a table is equal when it is equal at every index. -/
theorem contracts_ext {s t : State} (h : ∀ src, s.contract src = t.contract src) : s.contracts = t.contracts := by
  ext i hi : 1
  exact h ⟨i, hi⟩

theorem holds_ext {s t : State} (h : ∀ src, s.hold src = t.hold src) : s.holds = t.holds :=
  Vector.ext fun i hi => h ⟨i, hi⟩

theorem queues_ext {s t : State} (h : ∀ c, s.queue c = t.queue c) : s.queues = t.queues :=
  Vector.ext fun i hi => h ⟨i, hi⟩

theorem entries_ext {s t : State} (h : ∀ d, s.entry d = t.entry d) : s.entries = t.entries :=
  Vector.ext fun i hi => h ⟨i, hi⟩

end State
end Sys2Proof.Machine
end

