-- ==== Sys2Proof/Laws/Frames.lean ====
section
/-! SUPPORT. Frames: for each shared operation of Machine/Ops.lean, one lemma that lists every field it leaves alone. -/

namespace Sys2Proof.Machine
namespace State

/-- What an event raised leaves alone: all but the event queue (R160). -/
@[simp] theorem raise_frame (s : State) (e : Event) :
    (s.raise e).resetN = s.resetN ∧ (s.raise e).upRdy = s.upRdy ∧ (s.raise e).dnRdyPin = s.dnRdyPin ∧
    (s.raise e).dnRdy = s.dnRdy ∧ (s.raise e).timeBase = s.timeBase ∧ (s.raise e).tickets = s.tickets ∧
    (s.raise e).liveTags = s.liveTags ∧ (s.raise e).returnQ = s.returnQ ∧ (s.raise e).ulCpl = s.ulCpl ∧
    (s.raise e).regions = s.regions ∧ (s.raise e).globals = s.globals ∧ (s.raise e).contracts = s.contracts ∧
    (s.raise e).holds = s.holds ∧ (s.raise e).queues = s.queues ∧ (s.raise e).classes = s.classes ∧
    (s.raise e).rotation = s.rotation ∧ (s.raise e).dlReq = s.dlReq ∧ (s.raise e).entries = s.entries ∧
    (s.raise e).srcCounts = s.srcCounts ∧ (s.raise e).clsCounts = s.clsCounts ∧
    (s.raise e).globCounts = s.globCounts ∧ (s.raise e).lines = s.lines ∧ (s.raise e).response = s.response ∧
    (s.raise e).portIgnore = s.portIgnore ∧ (s.raise e).port = s.port ∧
    (s.raise e).wire = s.wire ∧ (s.raise e).frameFault = s.frameFault ∧ (s.raise e).pending = s.pending ∧
    (s.raise e).choices = s.choices ∧ (∀ i t, (s.raise e).live i t = s.live i t) ∧
    (∀ i, (s.raise e).region i = s.region i) ∧ (∀ i, (s.raise e).contract i = s.contract i) ∧
    (∀ i, (s.raise e).hold i = s.hold i) ∧ (∀ i, (s.raise e).queue i = s.queue i) ∧
    (∀ i, (s.raise e).cls i = s.cls i) ∧ (∀ i, (s.raise e).entry i = s.entry i) ∧
    (∀ i, (s.raise e).srcCount i = s.srcCount i) ∧ (∀ i, (s.raise e).clsCount i = s.clsCount i) ∧
    (∀ i, (s.raise e).line i = s.line i) := by
  unfold raise
  split <;> simp [live, region, contract, hold, queue, cls, entry, srcCount, clsCount, line]

/-- What COUNTER_WRAP leaves alone. -/
@[simp] theorem raiseWrap_frame (s : State) (id : CounterId) (w : Bool) :
    (s.raiseWrap id w).resetN = s.resetN ∧ (s.raiseWrap id w).upRdy = s.upRdy ∧
    (s.raiseWrap id w).dnRdyPin = s.dnRdyPin ∧ (s.raiseWrap id w).dnRdy = s.dnRdy ∧
    (s.raiseWrap id w).timeBase = s.timeBase ∧ (s.raiseWrap id w).tickets = s.tickets ∧
    (s.raiseWrap id w).liveTags = s.liveTags ∧ (s.raiseWrap id w).returnQ = s.returnQ ∧
    (s.raiseWrap id w).ulCpl = s.ulCpl ∧ (s.raiseWrap id w).regions = s.regions ∧
    (s.raiseWrap id w).globals = s.globals ∧ (s.raiseWrap id w).contracts = s.contracts ∧
    (s.raiseWrap id w).holds = s.holds ∧ (s.raiseWrap id w).queues = s.queues ∧
    (s.raiseWrap id w).classes = s.classes ∧ (s.raiseWrap id w).rotation = s.rotation ∧
    (s.raiseWrap id w).dlReq = s.dlReq ∧ (s.raiseWrap id w).entries = s.entries ∧
    (s.raiseWrap id w).srcCounts = s.srcCounts ∧ (s.raiseWrap id w).clsCounts = s.clsCounts ∧
    (s.raiseWrap id w).globCounts = s.globCounts ∧ (s.raiseWrap id w).lines = s.lines ∧
    (s.raiseWrap id w).response = s.response ∧ (s.raiseWrap id w).portIgnore = s.portIgnore ∧ (s.raiseWrap id w).port = s.port ∧
    (s.raiseWrap id w).wire = s.wire ∧
    (s.raiseWrap id w).frameFault = s.frameFault ∧ (s.raiseWrap id w).pending = s.pending ∧
    (s.raiseWrap id w).choices = s.choices ∧ (∀ i t, (s.raiseWrap id w).live i t = s.live i t) ∧
    (∀ i, (s.raiseWrap id w).region i = s.region i) ∧ (∀ i, (s.raiseWrap id w).contract i = s.contract i) ∧
    (∀ i, (s.raiseWrap id w).hold i = s.hold i) ∧ (∀ i, (s.raiseWrap id w).queue i = s.queue i) ∧
    (∀ i, (s.raiseWrap id w).cls i = s.cls i) ∧ (∀ i, (s.raiseWrap id w).entry i = s.entry i) ∧
    (∀ i, (s.raiseWrap id w).srcCount i = s.srcCount i) ∧ (∀ i, (s.raiseWrap id w).clsCount i = s.clsCount i) ∧
    (∀ i, (s.raiseWrap id w).line i = s.line i) := by
  unfold raiseWrap
  split <;> simp

/-- What a source's count leaves alone. -/
@[simp] theorem countSource_frame (s : State) (src : Fin 32) (k : SourceCounter) (n : Nat) :
    (s.countSource src k n).resetN = s.resetN ∧ (s.countSource src k n).upRdy = s.upRdy ∧
    (s.countSource src k n).dnRdyPin = s.dnRdyPin ∧ (s.countSource src k n).dnRdy = s.dnRdy ∧
    (s.countSource src k n).timeBase = s.timeBase ∧ (s.countSource src k n).tickets = s.tickets ∧
    (s.countSource src k n).liveTags = s.liveTags ∧ (s.countSource src k n).returnQ = s.returnQ ∧
    (s.countSource src k n).ulCpl = s.ulCpl ∧ (s.countSource src k n).regions = s.regions ∧
    (s.countSource src k n).globals = s.globals ∧ (s.countSource src k n).contracts = s.contracts ∧
    (s.countSource src k n).holds = s.holds ∧ (s.countSource src k n).queues = s.queues ∧
    (s.countSource src k n).classes = s.classes ∧ (s.countSource src k n).rotation = s.rotation ∧
    (s.countSource src k n).dlReq = s.dlReq ∧ (s.countSource src k n).entries = s.entries ∧
    (s.countSource src k n).clsCounts = s.clsCounts ∧ (s.countSource src k n).globCounts = s.globCounts ∧
    (s.countSource src k n).lines = s.lines ∧ (s.countSource src k n).response = s.response ∧
    (s.countSource src k n).portIgnore = s.portIgnore ∧ (s.countSource src k n).port = s.port ∧
    (s.countSource src k n).wire = s.wire ∧ (s.countSource src k n).frameFault = s.frameFault ∧
    (s.countSource src k n).pending = s.pending ∧ (s.countSource src k n).choices = s.choices ∧
    (∀ i t, (s.countSource src k n).live i t = s.live i t) ∧ (∀ i, (s.countSource src k n).region i = s.region i) ∧
    (∀ i, (s.countSource src k n).contract i = s.contract i) ∧ (∀ i, (s.countSource src k n).hold i = s.hold i) ∧
    (∀ i, (s.countSource src k n).queue i = s.queue i) ∧ (∀ i, (s.countSource src k n).cls i = s.cls i) ∧
    (∀ i, (s.countSource src k n).entry i = s.entry i) ∧ (∀ i, (s.countSource src k n).clsCount i = s.clsCount i) ∧
    (∀ i, (s.countSource src k n).line i = s.line i) := by
  simp [countSource]

/-- What a class's count leaves alone. -/
@[simp] theorem countClass_frame (s : State) (c : Fin 4) (k : ClassCounter) :
    (s.countClass c k).resetN = s.resetN ∧ (s.countClass c k).upRdy = s.upRdy ∧
    (s.countClass c k).dnRdyPin = s.dnRdyPin ∧ (s.countClass c k).dnRdy = s.dnRdy ∧
    (s.countClass c k).timeBase = s.timeBase ∧ (s.countClass c k).tickets = s.tickets ∧
    (s.countClass c k).liveTags = s.liveTags ∧ (s.countClass c k).returnQ = s.returnQ ∧
    (s.countClass c k).ulCpl = s.ulCpl ∧ (s.countClass c k).regions = s.regions ∧
    (s.countClass c k).globals = s.globals ∧ (s.countClass c k).contracts = s.contracts ∧
    (s.countClass c k).holds = s.holds ∧ (s.countClass c k).queues = s.queues ∧
    (s.countClass c k).classes = s.classes ∧ (s.countClass c k).rotation = s.rotation ∧
    (s.countClass c k).dlReq = s.dlReq ∧ (s.countClass c k).entries = s.entries ∧
    (s.countClass c k).srcCounts = s.srcCounts ∧ (s.countClass c k).globCounts = s.globCounts ∧
    (s.countClass c k).lines = s.lines ∧ (s.countClass c k).response = s.response ∧
    (s.countClass c k).portIgnore = s.portIgnore ∧ (s.countClass c k).port = s.port ∧
    (s.countClass c k).wire = s.wire ∧ (s.countClass c k).frameFault = s.frameFault ∧
    (s.countClass c k).pending = s.pending ∧ (s.countClass c k).choices = s.choices ∧
    (∀ i t, (s.countClass c k).live i t = s.live i t) ∧ (∀ i, (s.countClass c k).region i = s.region i) ∧
    (∀ i, (s.countClass c k).contract i = s.contract i) ∧ (∀ i, (s.countClass c k).hold i = s.hold i) ∧
    (∀ i, (s.countClass c k).queue i = s.queue i) ∧ (∀ i, (s.countClass c k).cls i = s.cls i) ∧
    (∀ i, (s.countClass c k).entry i = s.entry i) ∧ (∀ i, (s.countClass c k).srcCount i = s.srcCount i) ∧
    (∀ i, (s.countClass c k).line i = s.line i) := by
  simp [countClass]

/-- What a global count leaves alone. -/
@[simp] theorem countGlobal_frame (s : State) (k : GlobalCounter) :
    (s.countGlobal k).resetN = s.resetN ∧ (s.countGlobal k).upRdy = s.upRdy ∧
    (s.countGlobal k).dnRdyPin = s.dnRdyPin ∧ (s.countGlobal k).dnRdy = s.dnRdy ∧
    (s.countGlobal k).timeBase = s.timeBase ∧ (s.countGlobal k).tickets = s.tickets ∧
    (s.countGlobal k).liveTags = s.liveTags ∧ (s.countGlobal k).returnQ = s.returnQ ∧
    (s.countGlobal k).ulCpl = s.ulCpl ∧ (s.countGlobal k).regions = s.regions ∧
    (s.countGlobal k).globals = s.globals ∧ (s.countGlobal k).contracts = s.contracts ∧
    (s.countGlobal k).holds = s.holds ∧ (s.countGlobal k).queues = s.queues ∧ (s.countGlobal k).classes = s.classes ∧
    (s.countGlobal k).rotation = s.rotation ∧ (s.countGlobal k).dlReq = s.dlReq ∧
    (s.countGlobal k).entries = s.entries ∧ (s.countGlobal k).srcCounts = s.srcCounts ∧
    (s.countGlobal k).clsCounts = s.clsCounts ∧ (s.countGlobal k).lines = s.lines ∧
    (s.countGlobal k).response = s.response ∧ (s.countGlobal k).portIgnore = s.portIgnore ∧ (s.countGlobal k).port = s.port ∧
    (s.countGlobal k).wire = s.wire ∧
    (s.countGlobal k).frameFault = s.frameFault ∧ (s.countGlobal k).pending = s.pending ∧
    (s.countGlobal k).choices = s.choices ∧ (∀ i t, (s.countGlobal k).live i t = s.live i t) ∧
    (∀ i, (s.countGlobal k).region i = s.region i) ∧ (∀ i, (s.countGlobal k).contract i = s.contract i) ∧
    (∀ i, (s.countGlobal k).hold i = s.hold i) ∧ (∀ i, (s.countGlobal k).queue i = s.queue i) ∧
    (∀ i, (s.countGlobal k).cls i = s.cls i) ∧ (∀ i, (s.countGlobal k).entry i = s.entry i) ∧
    (∀ i, (s.countGlobal k).srcCount i = s.srcCount i) ∧ (∀ i, (s.countGlobal k).clsCount i = s.clsCount i) ∧
    (∀ i, (s.countGlobal k).line i = s.line i) := by
  simp [countGlobal, live, region, contract, hold, queue, cls, entry, srcCount, clsCount, line]

/-- What a refusal by the Admission Unit leaves alone. -/
@[simp] theorem refuse_frame (s : State) (src : Fin 32) (tag : Fin 16) (reason : Reason) :
    (s.refuse src tag reason).resetN = s.resetN ∧ (s.refuse src tag reason).upRdy = s.upRdy ∧
    (s.refuse src tag reason).dnRdyPin = s.dnRdyPin ∧ (s.refuse src tag reason).dnRdy = s.dnRdy ∧
    (s.refuse src tag reason).timeBase = s.timeBase ∧ (s.refuse src tag reason).tickets = s.tickets ∧
    (s.refuse src tag reason).liveTags = s.liveTags ∧ (s.refuse src tag reason).ulCpl = s.ulCpl ∧
    (s.refuse src tag reason).regions = s.regions ∧ (s.refuse src tag reason).globals = s.globals ∧
    (s.refuse src tag reason).contracts = s.contracts ∧ (s.refuse src tag reason).holds = s.holds ∧
    (s.refuse src tag reason).queues = s.queues ∧ (s.refuse src tag reason).classes = s.classes ∧
    (s.refuse src tag reason).rotation = s.rotation ∧ (s.refuse src tag reason).dlReq = s.dlReq ∧
    (s.refuse src tag reason).entries = s.entries ∧ (s.refuse src tag reason).clsCounts = s.clsCounts ∧
    (s.refuse src tag reason).globCounts = s.globCounts ∧ (s.refuse src tag reason).lines = s.lines ∧
    (s.refuse src tag reason).response = s.response ∧ (s.refuse src tag reason).portIgnore = s.portIgnore ∧
    (s.refuse src tag reason).port = s.port ∧
    (s.refuse src tag reason).wire = s.wire ∧
    (s.refuse src tag reason).frameFault = s.frameFault ∧ (s.refuse src tag reason).pending = s.pending ∧
    (s.refuse src tag reason).choices = s.choices ∧ (∀ i t, (s.refuse src tag reason).live i t = s.live i t) ∧
    (∀ i, (s.refuse src tag reason).region i = s.region i) ∧
    (∀ i, (s.refuse src tag reason).contract i = s.contract i) ∧ (∀ i, (s.refuse src tag reason).hold i = s.hold i) ∧
    (∀ i, (s.refuse src tag reason).queue i = s.queue i) ∧ (∀ i, (s.refuse src tag reason).cls i = s.cls i) ∧
    (∀ i, (s.refuse src tag reason).entry i = s.entry i) ∧
    (∀ i, (s.refuse src tag reason).clsCount i = s.clsCount i) ∧
    (∀ i, (s.refuse src tag reason).line i = s.line i) := by
  simp [refuse]

/-- What refusing stored requests leaves alone. -/
@[simp] theorem refuseList_frame (s : State) (reason : Reason) (l : List StoredReq) :
    (s.refuseList reason l).resetN = s.resetN ∧ (s.refuseList reason l).upRdy = s.upRdy ∧
    (s.refuseList reason l).dnRdyPin = s.dnRdyPin ∧ (s.refuseList reason l).dnRdy = s.dnRdy ∧
    (s.refuseList reason l).timeBase = s.timeBase ∧ (s.refuseList reason l).tickets = s.tickets ∧
    (s.refuseList reason l).liveTags = s.liveTags ∧ (s.refuseList reason l).ulCpl = s.ulCpl ∧
    (s.refuseList reason l).regions = s.regions ∧ (s.refuseList reason l).globals = s.globals ∧
    (s.refuseList reason l).contracts = s.contracts ∧ (s.refuseList reason l).holds = s.holds ∧
    (s.refuseList reason l).queues = s.queues ∧ (s.refuseList reason l).classes = s.classes ∧
    (s.refuseList reason l).rotation = s.rotation ∧ (s.refuseList reason l).dlReq = s.dlReq ∧
    (s.refuseList reason l).entries = s.entries ∧ (s.refuseList reason l).clsCounts = s.clsCounts ∧
    (s.refuseList reason l).globCounts = s.globCounts ∧ (s.refuseList reason l).lines = s.lines ∧
    (s.refuseList reason l).response = s.response ∧ (s.refuseList reason l).portIgnore = s.portIgnore ∧
    (s.refuseList reason l).port = s.port ∧
    (s.refuseList reason l).wire = s.wire ∧
    (s.refuseList reason l).frameFault = s.frameFault ∧ (s.refuseList reason l).pending = s.pending ∧
    (s.refuseList reason l).choices = s.choices ∧ (∀ i t, (s.refuseList reason l).live i t = s.live i t) ∧
    (∀ i, (s.refuseList reason l).region i = s.region i) ∧ (∀ i, (s.refuseList reason l).contract i = s.contract i) ∧
    (∀ i, (s.refuseList reason l).hold i = s.hold i) ∧ (∀ i, (s.refuseList reason l).queue i = s.queue i) ∧
    (∀ i, (s.refuseList reason l).cls i = s.cls i) ∧ (∀ i, (s.refuseList reason l).entry i = s.entry i) ∧
    (∀ i, (s.refuseList reason l).clsCount i = s.clsCount i) ∧ (∀ i, (s.refuseList reason l).line i = s.line i) := by
  induction l generalizing s with
  | nil => simp [refuseList]
  | cons r rest ih => simp [refuseList, ih]

/-- What applying a staged copy leaves alone. -/
@[simp] theorem applyStaged_frame (s : State) (src : Fin 32) :
    (s.applyStaged src).resetN = s.resetN ∧ (s.applyStaged src).upRdy = s.upRdy ∧
    (s.applyStaged src).dnRdyPin = s.dnRdyPin ∧ (s.applyStaged src).dnRdy = s.dnRdy ∧
    (s.applyStaged src).timeBase = s.timeBase ∧ (s.applyStaged src).tickets = s.tickets ∧
    (s.applyStaged src).liveTags = s.liveTags ∧ (s.applyStaged src).returnQ = s.returnQ ∧
    (s.applyStaged src).ulCpl = s.ulCpl ∧ (s.applyStaged src).regions = s.regions ∧
    (s.applyStaged src).globals = s.globals ∧ (s.applyStaged src).holds = s.holds ∧
    (s.applyStaged src).queues = s.queues ∧ (s.applyStaged src).classes = s.classes ∧
    (s.applyStaged src).rotation = s.rotation ∧ (s.applyStaged src).dlReq = s.dlReq ∧
    (s.applyStaged src).entries = s.entries ∧ (s.applyStaged src).srcCounts = s.srcCounts ∧
    (s.applyStaged src).clsCounts = s.clsCounts ∧ (s.applyStaged src).globCounts = s.globCounts ∧
    (s.applyStaged src).lines = s.lines ∧ (s.applyStaged src).response = s.response ∧
    (s.applyStaged src).portIgnore = s.portIgnore ∧ (s.applyStaged src).port = s.port ∧
    (s.applyStaged src).wire = s.wire ∧ (s.applyStaged src).frameFault = s.frameFault ∧
    (s.applyStaged src).pending = s.pending ∧ (s.applyStaged src).choices = s.choices ∧
    (∀ i t, (s.applyStaged src).live i t = s.live i t) ∧ (∀ i, (s.applyStaged src).region i = s.region i) ∧
    (∀ i, (s.applyStaged src).hold i = s.hold i) ∧ (∀ i, (s.applyStaged src).queue i = s.queue i) ∧
    (∀ i, (s.applyStaged src).cls i = s.cls i) ∧ (∀ i, (s.applyStaged src).entry i = s.entry i) ∧
    (∀ i, (s.applyStaged src).srcCount i = s.srcCount i) ∧ (∀ i, (s.applyStaged src).clsCount i = s.clsCount i) ∧
    (∀ i, (s.applyStaged src).line i = s.line i) := by
  unfold applyStaged
  split <;> simp

/-- What a timer's start leaves alone. -/
@[simp] theorem startTimer_frame (s : State) (src : Fin 32) :
    (s.startTimer src).resetN = s.resetN ∧ (s.startTimer src).upRdy = s.upRdy ∧
    (s.startTimer src).dnRdyPin = s.dnRdyPin ∧ (s.startTimer src).dnRdy = s.dnRdy ∧
    (s.startTimer src).timeBase = s.timeBase ∧ (s.startTimer src).tickets = s.tickets ∧
    (s.startTimer src).liveTags = s.liveTags ∧ (s.startTimer src).returnQ = s.returnQ ∧
    (s.startTimer src).ulCpl = s.ulCpl ∧ (s.startTimer src).regions = s.regions ∧
    (s.startTimer src).globals = s.globals ∧ (s.startTimer src).holds = s.holds ∧
    (s.startTimer src).queues = s.queues ∧ (s.startTimer src).classes = s.classes ∧
    (s.startTimer src).rotation = s.rotation ∧ (s.startTimer src).dlReq = s.dlReq ∧
    (s.startTimer src).entries = s.entries ∧ (s.startTimer src).srcCounts = s.srcCounts ∧
    (s.startTimer src).clsCounts = s.clsCounts ∧ (s.startTimer src).globCounts = s.globCounts ∧
    (s.startTimer src).evq = s.evq ∧ (s.startTimer src).lines = s.lines ∧ (s.startTimer src).response = s.response ∧
    (s.startTimer src).portIgnore = s.portIgnore ∧ (s.startTimer src).port = s.port ∧
    (s.startTimer src).wire = s.wire ∧ (s.startTimer src).frameFault = s.frameFault ∧
    (s.startTimer src).pending = s.pending ∧ (s.startTimer src).choices = s.choices ∧
    (∀ i t, (s.startTimer src).live i t = s.live i t) ∧ (∀ i, (s.startTimer src).region i = s.region i) ∧
    (∀ i, (s.startTimer src).hold i = s.hold i) ∧ (∀ i, (s.startTimer src).queue i = s.queue i) ∧
    (∀ i, (s.startTimer src).cls i = s.cls i) ∧ (∀ i, (s.startTimer src).entry i = s.entry i) ∧
    (∀ i, (s.startTimer src).srcCount i = s.srcCount i) ∧ (∀ i, (s.startTimer src).clsCount i = s.clsCount i) ∧
    (∀ i, (s.startTimer src).line i = s.line i) := by
  simp [startTimer]

/-- What a timer's stop leaves alone. -/
@[simp] theorem stopTimer_frame (s : State) (src : Fin 32) :
    (s.stopTimer src).resetN = s.resetN ∧ (s.stopTimer src).upRdy = s.upRdy ∧
    (s.stopTimer src).dnRdyPin = s.dnRdyPin ∧ (s.stopTimer src).dnRdy = s.dnRdy ∧
    (s.stopTimer src).timeBase = s.timeBase ∧ (s.stopTimer src).tickets = s.tickets ∧
    (s.stopTimer src).liveTags = s.liveTags ∧ (s.stopTimer src).returnQ = s.returnQ ∧
    (s.stopTimer src).ulCpl = s.ulCpl ∧ (s.stopTimer src).regions = s.regions ∧
    (s.stopTimer src).globals = s.globals ∧ (s.stopTimer src).holds = s.holds ∧ (s.stopTimer src).queues = s.queues ∧
    (s.stopTimer src).classes = s.classes ∧ (s.stopTimer src).rotation = s.rotation ∧
    (s.stopTimer src).dlReq = s.dlReq ∧ (s.stopTimer src).entries = s.entries ∧
    (s.stopTimer src).srcCounts = s.srcCounts ∧ (s.stopTimer src).clsCounts = s.clsCounts ∧
    (s.stopTimer src).globCounts = s.globCounts ∧ (s.stopTimer src).evq = s.evq ∧ (s.stopTimer src).lines = s.lines ∧
    (s.stopTimer src).response = s.response ∧ (s.stopTimer src).portIgnore = s.portIgnore ∧ (s.stopTimer src).port = s.port ∧
    (s.stopTimer src).wire = s.wire ∧
    (s.stopTimer src).frameFault = s.frameFault ∧ (s.stopTimer src).pending = s.pending ∧
    (s.stopTimer src).choices = s.choices ∧ (∀ i t, (s.stopTimer src).live i t = s.live i t) ∧
    (∀ i, (s.stopTimer src).region i = s.region i) ∧ (∀ i, (s.stopTimer src).hold i = s.hold i) ∧
    (∀ i, (s.stopTimer src).queue i = s.queue i) ∧ (∀ i, (s.stopTimer src).cls i = s.cls i) ∧
    (∀ i, (s.stopTimer src).entry i = s.entry i) ∧ (∀ i, (s.stopTimer src).srcCount i = s.srcCount i) ∧
    (∀ i, (s.stopTimer src).clsCount i = s.clsCount i) ∧ (∀ i, (s.stopTimer src).line i = s.line i) := by
  simp [stopTimer]

/-- What a change of state leaves alone. -/
@[simp] theorem setState_frame (s : State) (src : Fin 32) (x : SourceState) :
    (s.setState src x).resetN = s.resetN ∧ (s.setState src x).upRdy = s.upRdy ∧
    (s.setState src x).dnRdyPin = s.dnRdyPin ∧ (s.setState src x).dnRdy = s.dnRdy ∧
    (s.setState src x).timeBase = s.timeBase ∧ (s.setState src x).tickets = s.tickets ∧
    (s.setState src x).liveTags = s.liveTags ∧ (s.setState src x).returnQ = s.returnQ ∧
    (s.setState src x).ulCpl = s.ulCpl ∧ (s.setState src x).regions = s.regions ∧
    (s.setState src x).globals = s.globals ∧ (s.setState src x).holds = s.holds ∧
    (s.setState src x).queues = s.queues ∧ (s.setState src x).classes = s.classes ∧
    (s.setState src x).rotation = s.rotation ∧ (s.setState src x).dlReq = s.dlReq ∧
    (s.setState src x).entries = s.entries ∧ (s.setState src x).srcCounts = s.srcCounts ∧
    (s.setState src x).clsCounts = s.clsCounts ∧ (s.setState src x).globCounts = s.globCounts ∧
    (s.setState src x).evq = s.evq ∧ (s.setState src x).lines = s.lines ∧ (s.setState src x).response = s.response ∧
    (s.setState src x).portIgnore = s.portIgnore ∧ (s.setState src x).port = s.port ∧
    (s.setState src x).wire = s.wire ∧ (s.setState src x).frameFault = s.frameFault ∧
    (s.setState src x).pending = s.pending ∧ (s.setState src x).choices = s.choices ∧
    (∀ i t, (s.setState src x).live i t = s.live i t) ∧ (∀ i, (s.setState src x).region i = s.region i) ∧
    (∀ i, (s.setState src x).hold i = s.hold i) ∧ (∀ i, (s.setState src x).queue i = s.queue i) ∧
    (∀ i, (s.setState src x).cls i = s.cls i) ∧ (∀ i, (s.setState src x).entry i = s.entry i) ∧
    (∀ i, (s.setState src x).srcCount i = s.srcCount i) ∧ (∀ i, (s.setState src x).clsCount i = s.clsCount i) ∧
    (∀ i, (s.setState src x).line i = s.line i) := by
  simp [setState]

/-- What a change of balance leaves alone. -/
@[simp] theorem setBalance_frame (s : State) (src : Fin 32) (b : Nat) :
    (s.setBalance src b).resetN = s.resetN ∧ (s.setBalance src b).upRdy = s.upRdy ∧
    (s.setBalance src b).dnRdyPin = s.dnRdyPin ∧ (s.setBalance src b).dnRdy = s.dnRdy ∧
    (s.setBalance src b).timeBase = s.timeBase ∧ (s.setBalance src b).tickets = s.tickets ∧
    (s.setBalance src b).liveTags = s.liveTags ∧ (s.setBalance src b).returnQ = s.returnQ ∧
    (s.setBalance src b).ulCpl = s.ulCpl ∧ (s.setBalance src b).regions = s.regions ∧
    (s.setBalance src b).globals = s.globals ∧ (s.setBalance src b).holds = s.holds ∧
    (s.setBalance src b).queues = s.queues ∧ (s.setBalance src b).classes = s.classes ∧
    (s.setBalance src b).rotation = s.rotation ∧ (s.setBalance src b).dlReq = s.dlReq ∧
    (s.setBalance src b).entries = s.entries ∧ (s.setBalance src b).srcCounts = s.srcCounts ∧
    (s.setBalance src b).clsCounts = s.clsCounts ∧ (s.setBalance src b).globCounts = s.globCounts ∧
    (s.setBalance src b).evq = s.evq ∧ (s.setBalance src b).lines = s.lines ∧
    (s.setBalance src b).response = s.response ∧ (s.setBalance src b).portIgnore = s.portIgnore ∧ (s.setBalance src b).port = s.port ∧
    (s.setBalance src b).wire = s.wire ∧
    (s.setBalance src b).frameFault = s.frameFault ∧ (s.setBalance src b).pending = s.pending ∧
    (s.setBalance src b).choices = s.choices ∧ (∀ i t, (s.setBalance src b).live i t = s.live i t) ∧
    (∀ i, (s.setBalance src b).region i = s.region i) ∧ (∀ i, (s.setBalance src b).hold i = s.hold i) ∧
    (∀ i, (s.setBalance src b).queue i = s.queue i) ∧ (∀ i, (s.setBalance src b).cls i = s.cls i) ∧
    (∀ i, (s.setBalance src b).entry i = s.entry i) ∧ (∀ i, (s.setBalance src b).srcCount i = s.srcCount i) ∧
    (∀ i, (s.setBalance src b).clsCount i = s.clsCount i) ∧ (∀ i, (s.setBalance src b).line i = s.line i) := by
  simp [setBalance]

/-- What a change of edge count leaves alone. -/
@[simp] theorem setEdgeCount_frame (s : State) (src : Fin 32) (n : Nat) :
    (s.setEdgeCount src n).resetN = s.resetN ∧ (s.setEdgeCount src n).upRdy = s.upRdy ∧
    (s.setEdgeCount src n).dnRdyPin = s.dnRdyPin ∧ (s.setEdgeCount src n).dnRdy = s.dnRdy ∧
    (s.setEdgeCount src n).timeBase = s.timeBase ∧ (s.setEdgeCount src n).tickets = s.tickets ∧
    (s.setEdgeCount src n).liveTags = s.liveTags ∧ (s.setEdgeCount src n).returnQ = s.returnQ ∧
    (s.setEdgeCount src n).ulCpl = s.ulCpl ∧ (s.setEdgeCount src n).regions = s.regions ∧
    (s.setEdgeCount src n).globals = s.globals ∧ (s.setEdgeCount src n).holds = s.holds ∧
    (s.setEdgeCount src n).queues = s.queues ∧ (s.setEdgeCount src n).classes = s.classes ∧
    (s.setEdgeCount src n).rotation = s.rotation ∧ (s.setEdgeCount src n).dlReq = s.dlReq ∧
    (s.setEdgeCount src n).entries = s.entries ∧ (s.setEdgeCount src n).srcCounts = s.srcCounts ∧
    (s.setEdgeCount src n).clsCounts = s.clsCounts ∧ (s.setEdgeCount src n).globCounts = s.globCounts ∧
    (s.setEdgeCount src n).evq = s.evq ∧ (s.setEdgeCount src n).lines = s.lines ∧
    (s.setEdgeCount src n).response = s.response ∧ (s.setEdgeCount src n).portIgnore = s.portIgnore ∧ (s.setEdgeCount src n).port = s.port ∧
    (s.setEdgeCount src n).wire = s.wire ∧
    (s.setEdgeCount src n).frameFault = s.frameFault ∧ (s.setEdgeCount src n).pending = s.pending ∧
    (s.setEdgeCount src n).choices = s.choices ∧ (∀ i t, (s.setEdgeCount src n).live i t = s.live i t) ∧
    (∀ i, (s.setEdgeCount src n).region i = s.region i) ∧ (∀ i, (s.setEdgeCount src n).hold i = s.hold i) ∧
    (∀ i, (s.setEdgeCount src n).queue i = s.queue i) ∧ (∀ i, (s.setEdgeCount src n).cls i = s.cls i) ∧
    (∀ i, (s.setEdgeCount src n).entry i = s.entry i) ∧ (∀ i, (s.setEdgeCount src n).srcCount i = s.srcCount i) ∧
    (∀ i, (s.setEdgeCount src n).clsCount i = s.clsCount i) ∧ (∀ i, (s.setEdgeCount src n).line i = s.line i) := by
  simp [setEdgeCount]

/-- What a refill leaves alone. -/
@[simp] theorem refill_frame (s : State) (src : Fin 32) :
    (s.refill src).resetN = s.resetN ∧ (s.refill src).upRdy = s.upRdy ∧ (s.refill src).dnRdyPin = s.dnRdyPin ∧
    (s.refill src).dnRdy = s.dnRdy ∧ (s.refill src).timeBase = s.timeBase ∧ (s.refill src).tickets = s.tickets ∧
    (s.refill src).liveTags = s.liveTags ∧ (s.refill src).returnQ = s.returnQ ∧ (s.refill src).ulCpl = s.ulCpl ∧
    (s.refill src).regions = s.regions ∧ (s.refill src).globals = s.globals ∧ (s.refill src).holds = s.holds ∧
    (s.refill src).queues = s.queues ∧ (s.refill src).classes = s.classes ∧ (s.refill src).rotation = s.rotation ∧
    (s.refill src).dlReq = s.dlReq ∧ (s.refill src).entries = s.entries ∧ (s.refill src).srcCounts = s.srcCounts ∧
    (s.refill src).clsCounts = s.clsCounts ∧ (s.refill src).globCounts = s.globCounts ∧ (s.refill src).evq = s.evq ∧
    (s.refill src).lines = s.lines ∧ (s.refill src).response = s.response ∧
    (s.refill src).portIgnore = s.portIgnore ∧ (s.refill src).port = s.port ∧
    (s.refill src).wire = s.wire ∧
    (s.refill src).frameFault = s.frameFault ∧ (s.refill src).pending = s.pending ∧
    (s.refill src).choices = s.choices ∧ (∀ i t, (s.refill src).live i t = s.live i t) ∧
    (∀ i, (s.refill src).region i = s.region i) ∧ (∀ i, (s.refill src).hold i = s.hold i) ∧
    (∀ i, (s.refill src).queue i = s.queue i) ∧ (∀ i, (s.refill src).cls i = s.cls i) ∧
    (∀ i, (s.refill src).entry i = s.entry i) ∧ (∀ i, (s.refill src).srcCount i = s.srcCount i) ∧
    (∀ i, (s.refill src).clsCount i = s.clsCount i) ∧ (∀ i, (s.refill src).line i = s.line i) := by
  simp [refill]

/-- What the start of the next period leaves alone. -/
@[simp] theorem nextPeriod_frame (s : State) (src : Fin 32) :
    (s.nextPeriod src).resetN = s.resetN ∧ (s.nextPeriod src).upRdy = s.upRdy ∧
    (s.nextPeriod src).dnRdyPin = s.dnRdyPin ∧ (s.nextPeriod src).dnRdy = s.dnRdy ∧
    (s.nextPeriod src).timeBase = s.timeBase ∧ (s.nextPeriod src).tickets = s.tickets ∧
    (s.nextPeriod src).liveTags = s.liveTags ∧ (s.nextPeriod src).returnQ = s.returnQ ∧
    (s.nextPeriod src).ulCpl = s.ulCpl ∧ (s.nextPeriod src).regions = s.regions ∧
    (s.nextPeriod src).globals = s.globals ∧ (s.nextPeriod src).holds = s.holds ∧
    (s.nextPeriod src).queues = s.queues ∧ (s.nextPeriod src).classes = s.classes ∧
    (s.nextPeriod src).rotation = s.rotation ∧ (s.nextPeriod src).dlReq = s.dlReq ∧
    (s.nextPeriod src).entries = s.entries ∧ (s.nextPeriod src).srcCounts = s.srcCounts ∧
    (s.nextPeriod src).clsCounts = s.clsCounts ∧ (s.nextPeriod src).globCounts = s.globCounts ∧
    (s.nextPeriod src).evq = s.evq ∧ (s.nextPeriod src).lines = s.lines ∧ (s.nextPeriod src).response = s.response ∧
    (s.nextPeriod src).portIgnore = s.portIgnore ∧ (s.nextPeriod src).port = s.port ∧
    (s.nextPeriod src).wire = s.wire ∧ (s.nextPeriod src).frameFault = s.frameFault ∧
    (s.nextPeriod src).pending = s.pending ∧ (s.nextPeriod src).choices = s.choices ∧
    (∀ i t, (s.nextPeriod src).live i t = s.live i t) ∧ (∀ i, (s.nextPeriod src).region i = s.region i) ∧
    (∀ i, (s.nextPeriod src).hold i = s.hold i) ∧ (∀ i, (s.nextPeriod src).queue i = s.queue i) ∧
    (∀ i, (s.nextPeriod src).cls i = s.cls i) ∧ (∀ i, (s.nextPeriod src).entry i = s.entry i) ∧
    (∀ i, (s.nextPeriod src).srcCount i = s.srcCount i) ∧ (∀ i, (s.nextPeriod src).clsCount i = s.clsCount i) ∧
    (∀ i, (s.nextPeriod src).line i = s.line i) := by
  unfold nextPeriod
  split <;> simp

/-- What queueing a slot leaves alone. -/
@[simp] theorem enqueue_frame (s : State) (src : Fin 32) (r : StoredReq) :
    (s.enqueue src r).resetN = s.resetN ∧ (s.enqueue src r).upRdy = s.upRdy ∧
    (s.enqueue src r).dnRdyPin = s.dnRdyPin ∧ (s.enqueue src r).dnRdy = s.dnRdy ∧
    (s.enqueue src r).timeBase = s.timeBase ∧ (s.enqueue src r).tickets = s.tickets ∧
    (s.enqueue src r).liveTags = s.liveTags ∧ (s.enqueue src r).returnQ = s.returnQ ∧
    (s.enqueue src r).ulCpl = s.ulCpl ∧ (s.enqueue src r).regions = s.regions ∧
    (s.enqueue src r).globals = s.globals ∧ (s.enqueue src r).contracts = s.contracts ∧
    (s.enqueue src r).holds = s.holds ∧ (s.enqueue src r).classes = s.classes ∧
    (s.enqueue src r).rotation = s.rotation ∧ (s.enqueue src r).dlReq = s.dlReq ∧
    (s.enqueue src r).entries = s.entries ∧ (s.enqueue src r).srcCounts = s.srcCounts ∧
    (s.enqueue src r).clsCounts = s.clsCounts ∧ (s.enqueue src r).globCounts = s.globCounts ∧
    (s.enqueue src r).evq = s.evq ∧ (s.enqueue src r).lines = s.lines ∧ (s.enqueue src r).response = s.response ∧
    (s.enqueue src r).portIgnore = s.portIgnore ∧ (s.enqueue src r).port = s.port ∧
    (s.enqueue src r).wire = s.wire ∧ (s.enqueue src r).frameFault = s.frameFault ∧
    (s.enqueue src r).pending = s.pending ∧ (s.enqueue src r).choices = s.choices ∧
    (∀ i t, (s.enqueue src r).live i t = s.live i t) ∧ (∀ i, (s.enqueue src r).region i = s.region i) ∧
    (∀ i, (s.enqueue src r).contract i = s.contract i) ∧ (∀ i, (s.enqueue src r).hold i = s.hold i) ∧
    (∀ i, (s.enqueue src r).cls i = s.cls i) ∧ (∀ i, (s.enqueue src r).entry i = s.entry i) ∧
    (∀ i, (s.enqueue src r).srcCount i = s.srcCount i) ∧ (∀ i, (s.enqueue src r).clsCount i = s.clsCount i) ∧
    (∀ i, (s.enqueue src r).line i = s.line i) := by
  simp [enqueue]

/-- What queueing a slot against the balance leaves alone. -/
@[simp] theorem queueCharged_frame (s : State) (src : Fin 32) (r : StoredReq) :
    (s.queueCharged src r).resetN = s.resetN ∧ (s.queueCharged src r).upRdy = s.upRdy ∧
    (s.queueCharged src r).dnRdyPin = s.dnRdyPin ∧ (s.queueCharged src r).dnRdy = s.dnRdy ∧
    (s.queueCharged src r).timeBase = s.timeBase ∧ (s.queueCharged src r).tickets = s.tickets ∧
    (s.queueCharged src r).liveTags = s.liveTags ∧ (s.queueCharged src r).returnQ = s.returnQ ∧
    (s.queueCharged src r).ulCpl = s.ulCpl ∧ (s.queueCharged src r).regions = s.regions ∧
    (s.queueCharged src r).globals = s.globals ∧ (s.queueCharged src r).holds = s.holds ∧
    (s.queueCharged src r).classes = s.classes ∧ (s.queueCharged src r).rotation = s.rotation ∧
    (s.queueCharged src r).dlReq = s.dlReq ∧ (s.queueCharged src r).entries = s.entries ∧
    (s.queueCharged src r).clsCounts = s.clsCounts ∧ (s.queueCharged src r).globCounts = s.globCounts ∧
    (s.queueCharged src r).lines = s.lines ∧ (s.queueCharged src r).response = s.response ∧
    (s.queueCharged src r).portIgnore = s.portIgnore ∧ (s.queueCharged src r).port = s.port ∧
    (s.queueCharged src r).wire = s.wire ∧ (s.queueCharged src r).frameFault = s.frameFault ∧
    (s.queueCharged src r).pending = s.pending ∧ (s.queueCharged src r).choices = s.choices ∧
    (∀ i t, (s.queueCharged src r).live i t = s.live i t) ∧ (∀ i, (s.queueCharged src r).region i = s.region i) ∧
    (∀ i, (s.queueCharged src r).hold i = s.hold i) ∧ (∀ i, (s.queueCharged src r).cls i = s.cls i) ∧
    (∀ i, (s.queueCharged src r).entry i = s.entry i) ∧ (∀ i, (s.queueCharged src r).clsCount i = s.clsCount i) ∧
    (∀ i, (s.queueCharged src r).line i = s.line i) := by
  simp [queueCharged]

/-- What a drain leaves alone. -/
@[simp] theorem drainFuel_frame (src : Fin 32) (n : Nat) (s : State) :
    (State.drainFuel src n s).resetN = s.resetN ∧ (State.drainFuel src n s).upRdy = s.upRdy ∧
    (State.drainFuel src n s).dnRdyPin = s.dnRdyPin ∧ (State.drainFuel src n s).dnRdy = s.dnRdy ∧
    (State.drainFuel src n s).timeBase = s.timeBase ∧ (State.drainFuel src n s).tickets = s.tickets ∧
    (State.drainFuel src n s).liveTags = s.liveTags ∧ (State.drainFuel src n s).returnQ = s.returnQ ∧
    (State.drainFuel src n s).ulCpl = s.ulCpl ∧ (State.drainFuel src n s).regions = s.regions ∧
    (State.drainFuel src n s).globals = s.globals ∧ (State.drainFuel src n s).classes = s.classes ∧
    (State.drainFuel src n s).rotation = s.rotation ∧ (State.drainFuel src n s).dlReq = s.dlReq ∧
    (State.drainFuel src n s).entries = s.entries ∧ (State.drainFuel src n s).clsCounts = s.clsCounts ∧
    (State.drainFuel src n s).globCounts = s.globCounts ∧ (State.drainFuel src n s).lines = s.lines ∧
    (State.drainFuel src n s).response = s.response ∧ (State.drainFuel src n s).portIgnore = s.portIgnore ∧
    (State.drainFuel src n s).port = s.port ∧
    (State.drainFuel src n s).wire = s.wire ∧
    (State.drainFuel src n s).frameFault = s.frameFault ∧ (State.drainFuel src n s).pending = s.pending ∧
    (State.drainFuel src n s).choices = s.choices ∧ (∀ i t, (State.drainFuel src n s).live i t = s.live i t) ∧
    (∀ i, (State.drainFuel src n s).region i = s.region i) ∧ (∀ i, (State.drainFuel src n s).cls i = s.cls i) ∧
    (∀ i, (State.drainFuel src n s).entry i = s.entry i) ∧ (∀ i, (State.drainFuel src n s).clsCount i = s.clsCount i) ∧
    (∀ i, (State.drainFuel src n s).line i = s.line i) := by
  induction n generalizing s with
  | zero => simp [drainFuel]
  | succ n ih =>
    unfold drainFuel
    split
    · simp
    · split
      · simp [ih]
      · simp

/-- What a drain leaves alone. -/
@[simp] theorem drain_frame (s : State) (src : Fin 32) :
    (s.drain src).resetN = s.resetN ∧ (s.drain src).upRdy = s.upRdy ∧ (s.drain src).dnRdyPin = s.dnRdyPin ∧
    (s.drain src).dnRdy = s.dnRdy ∧ (s.drain src).timeBase = s.timeBase ∧ (s.drain src).tickets = s.tickets ∧
    (s.drain src).liveTags = s.liveTags ∧ (s.drain src).returnQ = s.returnQ ∧ (s.drain src).ulCpl = s.ulCpl ∧
    (s.drain src).regions = s.regions ∧ (s.drain src).globals = s.globals ∧ (s.drain src).classes = s.classes ∧
    (s.drain src).rotation = s.rotation ∧ (s.drain src).dlReq = s.dlReq ∧ (s.drain src).entries = s.entries ∧
    (s.drain src).clsCounts = s.clsCounts ∧ (s.drain src).globCounts = s.globCounts ∧ (s.drain src).lines = s.lines ∧
    (s.drain src).response = s.response ∧ (s.drain src).portIgnore = s.portIgnore ∧ (s.drain src).port = s.port ∧
    (s.drain src).wire = s.wire ∧
    (s.drain src).frameFault = s.frameFault ∧ (s.drain src).pending = s.pending ∧ (s.drain src).choices = s.choices ∧
    (∀ i t, (s.drain src).live i t = s.live i t) ∧ (∀ i, (s.drain src).region i = s.region i) ∧
    (∀ i, (s.drain src).cls i = s.cls i) ∧ (∀ i, (s.drain src).entry i = s.entry i) ∧
    (∀ i, (s.drain src).clsCount i = s.clsCount i) ∧ (∀ i, (s.drain src).line i = s.line i) := by
  simp [drain]

/-- What the expiry of a head leaves alone. -/
@[simp] theorem expireHead_frame (s : State) (src : Fin 32) (r : StoredReq) (rest : List StoredReq) :
    (s.expireHead src r rest).resetN = s.resetN ∧ (s.expireHead src r rest).upRdy = s.upRdy ∧
    (s.expireHead src r rest).dnRdyPin = s.dnRdyPin ∧ (s.expireHead src r rest).dnRdy = s.dnRdy ∧
    (s.expireHead src r rest).timeBase = s.timeBase ∧ (s.expireHead src r rest).tickets = s.tickets ∧
    (s.expireHead src r rest).liveTags = s.liveTags ∧ (s.expireHead src r rest).ulCpl = s.ulCpl ∧
    (s.expireHead src r rest).regions = s.regions ∧ (s.expireHead src r rest).globals = s.globals ∧
    (s.expireHead src r rest).contracts = s.contracts ∧ (s.expireHead src r rest).classes = s.classes ∧
    (s.expireHead src r rest).rotation = s.rotation ∧ (s.expireHead src r rest).dlReq = s.dlReq ∧
    (s.expireHead src r rest).entries = s.entries ∧ (s.expireHead src r rest).clsCounts = s.clsCounts ∧
    (s.expireHead src r rest).globCounts = s.globCounts ∧ (s.expireHead src r rest).lines = s.lines ∧
    (s.expireHead src r rest).response = s.response ∧ (s.expireHead src r rest).portIgnore = s.portIgnore ∧
    (s.expireHead src r rest).port = s.port ∧
    (s.expireHead src r rest).wire = s.wire ∧
    (s.expireHead src r rest).frameFault = s.frameFault ∧ (s.expireHead src r rest).pending = s.pending ∧
    (s.expireHead src r rest).choices = s.choices ∧ (∀ i t, (s.expireHead src r rest).live i t = s.live i t) ∧
    (∀ i, (s.expireHead src r rest).region i = s.region i) ∧
    (∀ i, (s.expireHead src r rest).contract i = s.contract i) ∧ (∀ i, (s.expireHead src r rest).cls i = s.cls i) ∧
    (∀ i, (s.expireHead src r rest).entry i = s.entry i) ∧
    (∀ i, (s.expireHead src r rest).clsCount i = s.clsCount i) ∧
    (∀ i, (s.expireHead src r rest).line i = s.line i) := by
  unfold expireHead
  split <;> simp

/-- What a head check and its cascade leave alone. -/
@[simp] theorem cascadeFuel_frame (src : Fin 32) (n : Nat) (s : State) :
    (State.cascadeFuel src n s).resetN = s.resetN ∧ (State.cascadeFuel src n s).upRdy = s.upRdy ∧
    (State.cascadeFuel src n s).dnRdyPin = s.dnRdyPin ∧ (State.cascadeFuel src n s).dnRdy = s.dnRdy ∧
    (State.cascadeFuel src n s).timeBase = s.timeBase ∧ (State.cascadeFuel src n s).tickets = s.tickets ∧
    (State.cascadeFuel src n s).liveTags = s.liveTags ∧ (State.cascadeFuel src n s).ulCpl = s.ulCpl ∧
    (State.cascadeFuel src n s).regions = s.regions ∧ (State.cascadeFuel src n s).globals = s.globals ∧
    (State.cascadeFuel src n s).classes = s.classes ∧ (State.cascadeFuel src n s).rotation = s.rotation ∧
    (State.cascadeFuel src n s).dlReq = s.dlReq ∧ (State.cascadeFuel src n s).entries = s.entries ∧
    (State.cascadeFuel src n s).clsCounts = s.clsCounts ∧ (State.cascadeFuel src n s).globCounts = s.globCounts ∧
    (State.cascadeFuel src n s).lines = s.lines ∧ (State.cascadeFuel src n s).response = s.response ∧
    (State.cascadeFuel src n s).portIgnore = s.portIgnore ∧ (State.cascadeFuel src n s).port = s.port ∧
    (State.cascadeFuel src n s).wire = s.wire ∧ (State.cascadeFuel src n s).frameFault = s.frameFault ∧
    (State.cascadeFuel src n s).pending = s.pending ∧ (State.cascadeFuel src n s).choices = s.choices ∧
    (∀ i t, (State.cascadeFuel src n s).live i t = s.live i t) ∧ (∀ i, (State.cascadeFuel src n s).region i = s.region i) ∧
    (∀ i, (State.cascadeFuel src n s).cls i = s.cls i) ∧ (∀ i, (State.cascadeFuel src n s).entry i = s.entry i) ∧
    (∀ i, (State.cascadeFuel src n s).clsCount i = s.clsCount i) ∧ (∀ i, (State.cascadeFuel src n s).line i = s.line i) := by
  induction n generalizing s with
  | zero => simp [cascadeFuel]
  | succ n ih =>
    unfold cascadeFuel
    split
    · simp
    · split
      · simp [ih]
      · simp

/-- What a head check and its cascade leave alone. -/
@[simp] theorem headCheck_frame (s : State) (src : Fin 32) :
    (s.headCheck src).resetN = s.resetN ∧ (s.headCheck src).upRdy = s.upRdy ∧
    (s.headCheck src).dnRdyPin = s.dnRdyPin ∧ (s.headCheck src).dnRdy = s.dnRdy ∧
    (s.headCheck src).timeBase = s.timeBase ∧ (s.headCheck src).tickets = s.tickets ∧
    (s.headCheck src).liveTags = s.liveTags ∧ (s.headCheck src).ulCpl = s.ulCpl ∧
    (s.headCheck src).regions = s.regions ∧ (s.headCheck src).globals = s.globals ∧
    (s.headCheck src).classes = s.classes ∧ (s.headCheck src).rotation = s.rotation ∧
    (s.headCheck src).dlReq = s.dlReq ∧ (s.headCheck src).entries = s.entries ∧
    (s.headCheck src).clsCounts = s.clsCounts ∧ (s.headCheck src).globCounts = s.globCounts ∧
    (s.headCheck src).lines = s.lines ∧ (s.headCheck src).response = s.response ∧
    (s.headCheck src).portIgnore = s.portIgnore ∧ (s.headCheck src).port = s.port ∧
    (s.headCheck src).wire = s.wire ∧ (s.headCheck src).frameFault = s.frameFault ∧
    (s.headCheck src).pending = s.pending ∧ (s.headCheck src).choices = s.choices ∧
    (∀ i t, (s.headCheck src).live i t = s.live i t) ∧ (∀ i, (s.headCheck src).region i = s.region i) ∧
    (∀ i, (s.headCheck src).cls i = s.cls i) ∧ (∀ i, (s.headCheck src).entry i = s.entry i) ∧
    (∀ i, (s.headCheck src).clsCount i = s.clsCount i) ∧ (∀ i, (s.headCheck src).line i = s.line i) := by
  simp [headCheck]

/-- What a drain and its head check leave alone. -/
@[simp] theorem drainAndCheck_frame (s : State) (src : Fin 32) :
    (s.drainAndCheck src).resetN = s.resetN ∧ (s.drainAndCheck src).upRdy = s.upRdy ∧
    (s.drainAndCheck src).dnRdyPin = s.dnRdyPin ∧ (s.drainAndCheck src).dnRdy = s.dnRdy ∧
    (s.drainAndCheck src).timeBase = s.timeBase ∧ (s.drainAndCheck src).tickets = s.tickets ∧
    (s.drainAndCheck src).liveTags = s.liveTags ∧ (s.drainAndCheck src).ulCpl = s.ulCpl ∧
    (s.drainAndCheck src).regions = s.regions ∧ (s.drainAndCheck src).globals = s.globals ∧
    (s.drainAndCheck src).classes = s.classes ∧ (s.drainAndCheck src).rotation = s.rotation ∧
    (s.drainAndCheck src).dlReq = s.dlReq ∧ (s.drainAndCheck src).entries = s.entries ∧
    (s.drainAndCheck src).clsCounts = s.clsCounts ∧ (s.drainAndCheck src).globCounts = s.globCounts ∧
    (s.drainAndCheck src).lines = s.lines ∧ (s.drainAndCheck src).response = s.response ∧
    (s.drainAndCheck src).portIgnore = s.portIgnore ∧ (s.drainAndCheck src).port = s.port ∧
    (s.drainAndCheck src).wire = s.wire ∧ (s.drainAndCheck src).frameFault = s.frameFault ∧
    (s.drainAndCheck src).pending = s.pending ∧ (s.drainAndCheck src).choices = s.choices ∧
    (∀ i t, (s.drainAndCheck src).live i t = s.live i t) ∧ (∀ i, (s.drainAndCheck src).region i = s.region i) ∧
    (∀ i, (s.drainAndCheck src).cls i = s.cls i) ∧ (∀ i, (s.drainAndCheck src).entry i = s.entry i) ∧
    (∀ i, (s.drainAndCheck src).clsCount i = s.clsCount i) ∧ (∀ i, (s.drainAndCheck src).line i = s.line i) := by
  simp [drainAndCheck]

/-- What a boundary leaves alone. -/
@[simp] theorem takeBoundary_frame (s : State) (src : Fin 32) :
    (s.takeBoundary src).resetN = s.resetN ∧ (s.takeBoundary src).upRdy = s.upRdy ∧
    (s.takeBoundary src).dnRdyPin = s.dnRdyPin ∧ (s.takeBoundary src).dnRdy = s.dnRdy ∧
    (s.takeBoundary src).timeBase = s.timeBase ∧ (s.takeBoundary src).tickets = s.tickets ∧
    (s.takeBoundary src).liveTags = s.liveTags ∧ (s.takeBoundary src).ulCpl = s.ulCpl ∧
    (s.takeBoundary src).regions = s.regions ∧ (s.takeBoundary src).globals = s.globals ∧
    (s.takeBoundary src).classes = s.classes ∧ (s.takeBoundary src).rotation = s.rotation ∧
    (s.takeBoundary src).dlReq = s.dlReq ∧ (s.takeBoundary src).entries = s.entries ∧
    (s.takeBoundary src).clsCounts = s.clsCounts ∧ (s.takeBoundary src).globCounts = s.globCounts ∧
    (s.takeBoundary src).lines = s.lines ∧ (s.takeBoundary src).response = s.response ∧
    (s.takeBoundary src).portIgnore = s.portIgnore ∧ (s.takeBoundary src).port = s.port ∧
    (s.takeBoundary src).wire = s.wire ∧ (s.takeBoundary src).frameFault = s.frameFault ∧
    (s.takeBoundary src).pending = s.pending ∧ (s.takeBoundary src).choices = s.choices ∧
    (∀ i t, (s.takeBoundary src).live i t = s.live i t) ∧ (∀ i, (s.takeBoundary src).region i = s.region i) ∧
    (∀ i, (s.takeBoundary src).cls i = s.cls i) ∧ (∀ i, (s.takeBoundary src).entry i = s.entry i) ∧
    (∀ i, (s.takeBoundary src).clsCount i = s.clsCount i) ∧ (∀ i, (s.takeBoundary src).line i = s.line i) := by
  simp [takeBoundary]

/-- What a window end leaves alone. -/
@[simp] theorem takeWindowEnd_frame (s : State) (src : Fin 32) :
    (s.takeWindowEnd src).resetN = s.resetN ∧ (s.takeWindowEnd src).upRdy = s.upRdy ∧
    (s.takeWindowEnd src).dnRdyPin = s.dnRdyPin ∧ (s.takeWindowEnd src).dnRdy = s.dnRdy ∧
    (s.takeWindowEnd src).timeBase = s.timeBase ∧ (s.takeWindowEnd src).tickets = s.tickets ∧
    (s.takeWindowEnd src).liveTags = s.liveTags ∧ (s.takeWindowEnd src).ulCpl = s.ulCpl ∧
    (s.takeWindowEnd src).regions = s.regions ∧ (s.takeWindowEnd src).globals = s.globals ∧
    (s.takeWindowEnd src).queues = s.queues ∧ (s.takeWindowEnd src).classes = s.classes ∧
    (s.takeWindowEnd src).rotation = s.rotation ∧ (s.takeWindowEnd src).dlReq = s.dlReq ∧
    (s.takeWindowEnd src).entries = s.entries ∧ (s.takeWindowEnd src).clsCounts = s.clsCounts ∧
    (s.takeWindowEnd src).globCounts = s.globCounts ∧ (s.takeWindowEnd src).lines = s.lines ∧
    (s.takeWindowEnd src).response = s.response ∧ (s.takeWindowEnd src).portIgnore = s.portIgnore ∧ (s.takeWindowEnd src).port = s.port ∧
    (s.takeWindowEnd src).wire = s.wire ∧
    (s.takeWindowEnd src).frameFault = s.frameFault ∧ (s.takeWindowEnd src).pending = s.pending ∧
    (s.takeWindowEnd src).choices = s.choices ∧ (∀ i t, (s.takeWindowEnd src).live i t = s.live i t) ∧
    (∀ i, (s.takeWindowEnd src).region i = s.region i) ∧ (∀ i, (s.takeWindowEnd src).queue i = s.queue i) ∧
    (∀ i, (s.takeWindowEnd src).cls i = s.cls i) ∧ (∀ i, (s.takeWindowEnd src).entry i = s.entry i) ∧
    (∀ i, (s.takeWindowEnd src).clsCount i = s.clsCount i) ∧ (∀ i, (s.takeWindowEnd src).line i = s.line i) := by
  simp [takeWindowEnd]

/-- What a counted edge leaves alone. -/
@[simp] theorem countEdge_frame (s : State) (n : Fin 4) (src : Fin 32) :
    (s.countEdge n src).resetN = s.resetN ∧ (s.countEdge n src).upRdy = s.upRdy ∧
    (s.countEdge n src).dnRdyPin = s.dnRdyPin ∧ (s.countEdge n src).dnRdy = s.dnRdy ∧
    (s.countEdge n src).timeBase = s.timeBase ∧ (s.countEdge n src).tickets = s.tickets ∧
    (s.countEdge n src).liveTags = s.liveTags ∧ (s.countEdge n src).ulCpl = s.ulCpl ∧
    (s.countEdge n src).regions = s.regions ∧ (s.countEdge n src).globals = s.globals ∧
    (s.countEdge n src).classes = s.classes ∧ (s.countEdge n src).rotation = s.rotation ∧
    (s.countEdge n src).dlReq = s.dlReq ∧ (s.countEdge n src).entries = s.entries ∧
    (s.countEdge n src).clsCounts = s.clsCounts ∧ (s.countEdge n src).globCounts = s.globCounts ∧
    (s.countEdge n src).lines = s.lines ∧ (s.countEdge n src).response = s.response ∧
    (s.countEdge n src).portIgnore = s.portIgnore ∧ (s.countEdge n src).port = s.port ∧
    (s.countEdge n src).wire = s.wire ∧ (s.countEdge n src).frameFault = s.frameFault ∧
    (s.countEdge n src).pending = s.pending ∧ (s.countEdge n src).choices = s.choices ∧
    (∀ i t, (s.countEdge n src).live i t = s.live i t) ∧ (∀ i, (s.countEdge n src).region i = s.region i) ∧
    (∀ i, (s.countEdge n src).cls i = s.cls i) ∧ (∀ i, (s.countEdge n src).entry i = s.entry i) ∧
    (∀ i, (s.countEdge n src).clsCount i = s.clsCount i) ∧ (∀ i, (s.countEdge n src).line i = s.line i) := by
  simp only [countEdge]
  split
  · split <;> simp
  · simp

/-- What an edge counted at several sources leaves alone. -/
@[simp] theorem countEdges_frame (s : State) (n : Fin 4) (l : List (Fin 32)) :
    (s.countEdges n l).resetN = s.resetN ∧ (s.countEdges n l).upRdy = s.upRdy ∧
    (s.countEdges n l).dnRdyPin = s.dnRdyPin ∧ (s.countEdges n l).dnRdy = s.dnRdy ∧
    (s.countEdges n l).timeBase = s.timeBase ∧ (s.countEdges n l).tickets = s.tickets ∧
    (s.countEdges n l).liveTags = s.liveTags ∧ (s.countEdges n l).ulCpl = s.ulCpl ∧
    (s.countEdges n l).regions = s.regions ∧ (s.countEdges n l).globals = s.globals ∧
    (s.countEdges n l).classes = s.classes ∧ (s.countEdges n l).rotation = s.rotation ∧
    (s.countEdges n l).dlReq = s.dlReq ∧ (s.countEdges n l).entries = s.entries ∧
    (s.countEdges n l).clsCounts = s.clsCounts ∧ (s.countEdges n l).globCounts = s.globCounts ∧
    (s.countEdges n l).lines = s.lines ∧ (s.countEdges n l).response = s.response ∧
    (s.countEdges n l).portIgnore = s.portIgnore ∧ (s.countEdges n l).port = s.port ∧
    (s.countEdges n l).wire = s.wire ∧ (s.countEdges n l).frameFault = s.frameFault ∧
    (s.countEdges n l).pending = s.pending ∧ (s.countEdges n l).choices = s.choices ∧
    (∀ i t, (s.countEdges n l).live i t = s.live i t) ∧ (∀ i, (s.countEdges n l).region i = s.region i) ∧
    (∀ i, (s.countEdges n l).cls i = s.cls i) ∧ (∀ i, (s.countEdges n l).entry i = s.entry i) ∧
    (∀ i, (s.countEdges n l).clsCount i = s.clsCount i) ∧ (∀ i, (s.countEdges n l).line i = s.line i) := by
  induction l generalizing s with
  | nil => simp [countEdges]
  | cons src rest ih => simp [countEdges, ih]

/-- What a qualifying edge leaves alone. -/
@[simp] theorem qualifyingEdge_frame (s : State) (n : Fin 4) :
    (s.qualifyingEdge n).resetN = s.resetN ∧ (s.qualifyingEdge n).upRdy = s.upRdy ∧
    (s.qualifyingEdge n).dnRdyPin = s.dnRdyPin ∧ (s.qualifyingEdge n).dnRdy = s.dnRdy ∧
    (s.qualifyingEdge n).timeBase = s.timeBase ∧ (s.qualifyingEdge n).tickets = s.tickets ∧
    (s.qualifyingEdge n).liveTags = s.liveTags ∧ (s.qualifyingEdge n).ulCpl = s.ulCpl ∧
    (s.qualifyingEdge n).regions = s.regions ∧ (s.qualifyingEdge n).globals = s.globals ∧
    (s.qualifyingEdge n).classes = s.classes ∧ (s.qualifyingEdge n).rotation = s.rotation ∧
    (s.qualifyingEdge n).dlReq = s.dlReq ∧ (s.qualifyingEdge n).entries = s.entries ∧
    (s.qualifyingEdge n).clsCounts = s.clsCounts ∧ (s.qualifyingEdge n).globCounts = s.globCounts ∧
    (s.qualifyingEdge n).lines = s.lines ∧ (s.qualifyingEdge n).response = s.response ∧
    (s.qualifyingEdge n).portIgnore = s.portIgnore ∧ (s.qualifyingEdge n).port = s.port ∧
    (s.qualifyingEdge n).wire = s.wire ∧ (s.qualifyingEdge n).frameFault = s.frameFault ∧
    (s.qualifyingEdge n).pending = s.pending ∧ (s.qualifyingEdge n).choices = s.choices ∧
    (∀ i t, (s.qualifyingEdge n).live i t = s.live i t) ∧ (∀ i, (s.qualifyingEdge n).region i = s.region i) ∧
    (∀ i, (s.qualifyingEdge n).cls i = s.cls i) ∧ (∀ i, (s.qualifyingEdge n).entry i = s.entry i) ∧
    (∀ i, (s.qualifyingEdge n).clsCount i = s.clsCount i) ∧ (∀ i, (s.qualifyingEdge n).line i = s.line i) := by
  simp [qualifyingEdge]

/-- What a settling leaves alone, but for its line. -/
@[simp] theorem settle_frame (s : State) (n : Fin 4) (level : Level) :
    (s.settle n level).resetN = s.resetN ∧ (s.settle n level).upRdy = s.upRdy ∧
    (s.settle n level).dnRdyPin = s.dnRdyPin ∧ (s.settle n level).dnRdy = s.dnRdy ∧
    (s.settle n level).timeBase = s.timeBase ∧ (s.settle n level).tickets = s.tickets ∧
    (s.settle n level).liveTags = s.liveTags ∧ (s.settle n level).ulCpl = s.ulCpl ∧
    (s.settle n level).regions = s.regions ∧ (s.settle n level).globals = s.globals ∧
    (s.settle n level).classes = s.classes ∧ (s.settle n level).rotation = s.rotation ∧
    (s.settle n level).dlReq = s.dlReq ∧ (s.settle n level).entries = s.entries ∧
    (s.settle n level).clsCounts = s.clsCounts ∧ (s.settle n level).globCounts = s.globCounts ∧
    (s.settle n level).response = s.response ∧ (s.settle n level).portIgnore = s.portIgnore ∧ (s.settle n level).port = s.port ∧
    (s.settle n level).wire = s.wire ∧
    (s.settle n level).frameFault = s.frameFault ∧ (s.settle n level).pending = s.pending ∧
    (s.settle n level).choices = s.choices ∧ (∀ i t, (s.settle n level).live i t = s.live i t) ∧
    (∀ i, (s.settle n level).region i = s.region i) ∧ (∀ i, (s.settle n level).cls i = s.cls i) ∧
    (∀ i, (s.settle n level).entry i = s.entry i) ∧ (∀ i, (s.settle n level).clsCount i = s.clsCount i) := by
  simp only [settle]
  split <;> simp

/-- What a returned credit leaves alone. -/
@[simp] theorem returnCredit_frame (s : State) (c : Fin 4) :
    (s.returnCredit c).resetN = s.resetN ∧ (s.returnCredit c).upRdy = s.upRdy ∧
    (s.returnCredit c).dnRdyPin = s.dnRdyPin ∧ (s.returnCredit c).dnRdy = s.dnRdy ∧
    (s.returnCredit c).timeBase = s.timeBase ∧ (s.returnCredit c).tickets = s.tickets ∧
    (s.returnCredit c).liveTags = s.liveTags ∧ (s.returnCredit c).returnQ = s.returnQ ∧
    (s.returnCredit c).ulCpl = s.ulCpl ∧ (s.returnCredit c).regions = s.regions ∧
    (s.returnCredit c).globals = s.globals ∧ (s.returnCredit c).contracts = s.contracts ∧
    (s.returnCredit c).holds = s.holds ∧ (s.returnCredit c).queues = s.queues ∧
    (s.returnCredit c).rotation = s.rotation ∧ (s.returnCredit c).dlReq = s.dlReq ∧
    (s.returnCredit c).entries = s.entries ∧ (s.returnCredit c).srcCounts = s.srcCounts ∧
    (s.returnCredit c).clsCounts = s.clsCounts ∧ (s.returnCredit c).globCounts = s.globCounts ∧
    (s.returnCredit c).evq = s.evq ∧ (s.returnCredit c).lines = s.lines ∧ (s.returnCredit c).response = s.response ∧
    (s.returnCredit c).portIgnore = s.portIgnore ∧ (s.returnCredit c).port = s.port ∧
    (s.returnCredit c).wire = s.wire ∧ (s.returnCredit c).frameFault = s.frameFault ∧
    (s.returnCredit c).pending = s.pending ∧ (s.returnCredit c).choices = s.choices ∧
    (∀ i t, (s.returnCredit c).live i t = s.live i t) ∧ (∀ i, (s.returnCredit c).region i = s.region i) ∧
    (∀ i, (s.returnCredit c).contract i = s.contract i) ∧ (∀ i, (s.returnCredit c).hold i = s.hold i) ∧
    (∀ i, (s.returnCredit c).queue i = s.queue i) ∧ (∀ i, (s.returnCredit c).entry i = s.entry i) ∧
    (∀ i, (s.returnCredit c).srcCount i = s.srcCount i) ∧ (∀ i, (s.returnCredit c).clsCount i = s.clsCount i) ∧
    (∀ i, (s.returnCredit c).line i = s.line i) := by
  simp [returnCredit]

end State
end Sys2Proof.Machine
end

