-- ==== Sys2Proof/Laws/Ops.lean ====
section
/-! SUPPORT. What each shared operation of Machine/Ops.lean does to the fields it writes: one lemma for each, which says it whole,
and the sums over indexed tables that the laws of Safety.lean speak of. Machine/Ops.lean's frames are in Laws/Frames.lean. -/

namespace Sys2Proof.Machine

/-! ### Sums -/

theorem sumFin_eq_sum (n : Nat) (f : Fin n → Nat) : sumFin n f = ∑ i, f i := by
  simp [sumFin, Fin.sum_univ_def]

theorem countFin_eq_card (n : Nat) (p : Fin n → Bool) :
    countFin n p = (Finset.univ.filter fun i => p i = true).card := by
  rw [countFin, sumFin_eq_sum, Finset.card_filter]

theorem sumFin_congr {n : Nat} {f g : Fin n → Nat} (h : ∀ i, f i = g i) : sumFin n f = sumFin n g :=
  congrArg (sumFin n) (funext h)

theorem countFin_congr {n : Nat} {p q : Fin n → Bool} (h : ∀ i, p i = q i) : countFin n p = countFin n q :=
  congrArg (countFin n) (funext h)

@[simp] theorem sumFin_zero (n : Nat) : sumFin n (fun _ => 0) = 0 := by simp [sumFin_eq_sum]

@[simp] theorem countFin_false (n : Nat) : countFin n (fun _ => false) = 0 := by simp [countFin]

/-- A sum after one of its terms has changed. -/
theorem sumFin_update {n : Nat} {f g : Fin n → Nat} (j : Fin n) (h : ∀ i, i ≠ j → g i = f i) :
    sumFin n g + f j = sumFin n f + g j := by
  have hs : ∑ i ∈ Finset.univ.erase j, g i = ∑ i ∈ Finset.univ.erase j, f i :=
    Finset.sum_congr rfl fun i hi => h i (Finset.ne_of_mem_erase hi)
  rw [sumFin_eq_sum, sumFin_eq_sum, ← Finset.sum_erase_add _ _ (Finset.mem_univ j),
    ← Finset.sum_erase_add _ f (Finset.mem_univ j), hs]
  omega

/-- A count after one of its terms has changed. -/
theorem countFin_update {n : Nat} {p q : Fin n → Bool} (j : Fin n) (h : ∀ i, i ≠ j → q i = p i) :
    countFin n q + (if p j then 1 else 0) = countFin n p + (if q j then 1 else 0) :=
  sumFin_update (f := fun i => if p i then 1 else 0) (g := fun i => if q i then 1 else 0) j
    fun i hi => by rw [h i hi]

theorem countFin_le (n : Nat) (p : Fin n → Bool) : countFin n p ≤ n := by
  rw [countFin_eq_card]
  exact (Finset.card_le_univ _).trans_eq (Fintype.card_fin n)

/-! ### The event queue -/

namespace EventQueue

/-- A record that joins a queue keeps its law where there is room and nothing was lost. -/
theorem join_law {q : EventQueue} (h : q.Law) (hr : q.records.length < Config.eventCapacity) (t : Time) (e : Event) :
    (q.join t e).Law := by
  obtain ⟨h1, h2, h3⟩ := h
  refine ⟨?_, ?_, ?_⟩
  · simpa [join] using hr
  · intro hl
    have := h2 hl
    omega
  · rintro ⟨i, hi⟩
    simp only [join, List.length_append, List.length_cons, List.length_nil] at hi
    by_cases hlt : i < q.records.length
    · have := h3 ⟨i, hlt⟩
      simp only [join, Fin.getElem_fin, List.length_append, List.length_cons, List.length_nil] at this ⊢
      rw [List.getElem_append_left hlt, ← this,
        show q.records.length + (0 + 1) - i = (q.records.length - i) + 1 by omega, BitVec.ofNat_add, ← BitVec.add_assoc]
      rfl
    · have hi' : i = q.records.length := by omega
      subst hi'
      simp [join]

/-- Offering a record keeps the law (R161). -/
theorem offer_law {q : EventQueue} (h : q.Law) (t : Time) (e : Event) : (q.offer t e).Law := by
  unfold offer
  split
  · exact join_law h ‹_› t e
  · split
    · exact h
    · have hl : q.records.length = Config.eventCapacity := le_antisymm h.1 (not_lt.mp ‹_›)
      exact ⟨h.1, fun _ => hl, h.2.2⟩

end EventQueue

namespace State

theorem raise_evq (s : State) (e : Event) :
    (s.raise e).evq = if s.enabled e then s.evq.offer s.timeBase e else s.evq := by
  unfold raise
  split <;> rfl

theorem raise_eventLaw {s : State} (h : s.EventLaw) (e : Event) : (s.raise e).EventLaw := by
  unfold EventLaw
  rw [raise_evq]
  split
  · exact EventQueue.offer_law h _ _
  · exact h

theorem raiseWrap_eventLaw {s : State} (h : s.EventLaw) (id : CounterId) (w : Bool) : (s.raiseWrap id w).EventLaw := by
  unfold raiseWrap
  split
  · exact raise_eventLaw h _
  · exact h

/-! ### Counts -/

theorem countSource_srcCount (s : State) (src i : Fin 32) (k : SourceCounter) (n : Nat) :
    (s.countSource src k n).srcCount i =
      if i = src then (s.srcCount src).put k ((s.srcCount src).get k + BitVec.ofNat 32 n) else s.srcCount i := by
  simp [countSource, setSrcCount_srcCount]

theorem countSource_evq (s : State) (src : Fin 32) (k : SourceCounter) (n : Nat) :
    (s.countSource src k n).evq = (s.raiseWrap (.source src k) (wraps ((s.srcCount src).get k) n)).evq := by
  unfold countSource raiseWrap
  split <;> simp [raise_evq, enabled]

theorem countSource_eventLaw {s : State} (h : s.EventLaw) (src : Fin 32) (k : SourceCounter) (n : Nat) :
    (s.countSource src k n).EventLaw := by
  unfold EventLaw
  rw [countSource_evq]
  exact raiseWrap_eventLaw h _ _

theorem countClass_clsCount (s : State) (c i : Fin 4) (k : ClassCounter) :
    (s.countClass c k).clsCount i =
      if i = c then (s.clsCount c).put k ((s.clsCount c).get k + 1) else s.clsCount i := by
  simp [countClass, setClsCount_clsCount]

theorem countClass_eventLaw {s : State} (h : s.EventLaw) (c : Fin 4) (k : ClassCounter) : (s.countClass c k).EventLaw :=
  raiseWrap_eventLaw (s := s.setClsCount c _) h _ _

theorem countGlobal_globCounts (s : State) (k : GlobalCounter) :
    (s.countGlobal k).globCounts = s.globCounts.put k (s.globCounts.get k + 1) := by
  simp [countGlobal]

theorem countGlobal_eventLaw {s : State} (h : s.EventLaw) (k : GlobalCounter) : (s.countGlobal k).EventLaw :=
  raiseWrap_eventLaw (s := { s with globCounts := s.globCounts.put k (s.globCounts.get k + 1) }) h _ _

/-! ### Refusals -/

@[simp] theorem refuse_returnQ (s : State) (src : Fin 32) (tag : Fin 16) (reason : Reason) :
    (s.refuse src tag reason).returnQ = s.returnQ ++ [bareCompletion src (wireTag tag) (.refused reason)] := by
  simp [refuse]

theorem refuse_srcCount (s : State) (src i : Fin 32) (tag : Fin 16) (reason : Reason) :
    (s.refuse src tag reason).srcCount i =
      if i = src then { s.srcCount src with refusedCount := (s.srcCount src).refusedCount + 1 } else s.srcCount i := by
  simp [refuse, countSource_srcCount, SourceCounts.put, SourceCounts.get]

theorem refuse_eventLaw {s : State} (h : s.EventLaw) (src : Fin 32) (tag : Fin 16) (reason : Reason) :
    (s.refuse src tag reason).EventLaw :=
  raise_eventLaw (countSource_eventLaw (s := s.joinReturn _) h _ _ _) _

@[simp] theorem refuseList_returnQ (s : State) (reason : Reason) (l : List StoredReq) :
    (s.refuseList reason l).returnQ =
      s.returnQ ++ l.map fun r => bareCompletion r.source (wireTag r.tag) (.refused reason) := by
  induction l generalizing s with
  | nil => simp [refuseList]
  | cons r rest ih => simp [refuseList, ih]

theorem refuseList_eventLaw {s : State} (h : s.EventLaw) (reason : Reason) (l : List StoredReq) :
    (s.refuseList reason l).EventLaw := by
  induction l generalizing s with
  | nil => exact h
  | cons r rest ih => exact ih (refuse_eventLaw h _ _ _)

/-! ### Contracts -/

theorem setState_contract (s : State) (src i : Fin 32) (x : SourceState) :
    (s.setState src x).contract i = if i = src then { s.contract src with state := x } else s.contract i :=
  setContract_contract s src i _

theorem setBalance_contract (s : State) (src i : Fin 32) (b : Nat) :
    (s.setBalance src b).contract i = if i = src then { s.contract src with balance := b } else s.contract i :=
  setContract_contract s src i _

theorem setEdgeCount_contract (s : State) (src i : Fin 32) (n : Nat) :
    (s.setEdgeCount src n).contract i = if i = src then { s.contract src with edgeCount := n } else s.contract i :=
  setContract_contract s src i _

theorem stopTimer_contract (s : State) (src i : Fin 32) :
    (s.stopTimer src).contract i = if i = src then { s.contract src with timer := .stopped } else s.contract i :=
  setContract_contract s src i _

theorem startTimer_contract (s : State) (src i : Fin 32) :
    (s.startTimer src).contract i =
      if i = src then
        { s.contract src with
          timer :=
            match (s.contract src).settings.mode with
            | .reload => .running .period s.timeBase (s.contract src).settings.periodTicks
            | .oneShot => .running .window s.timeBase (s.contract src).settings.periodTicks
            | .triggered => .stopped }
      else s.contract i :=
  setContract_contract s src i _

theorem refill_contract (s : State) (src i : Fin 32) :
    (s.refill src).contract i =
      if i = src then
        { s.contract src with
          balance := min ((s.contract src).balance + (s.contract src).settings.budget) (s.contract src).settings.ceiling }
      else s.contract i :=
  setContract_contract s src i _

/-- Applying a staged copy: the copy's settings, the clipped balance, no copy; nothing where none is present (R37). -/
theorem applyStaged_contract (s : State) (src i : Fin 32) :
    (s.applyStaged src).contract i =
      if i = src then
        match (s.contract src).staged with
        | none => s.contract src
        | some x =>
          { s.contract src with settings := x, staged := none, balance := min (s.contract src).balance x.ceiling }
      else s.contract i := by
  unfold applyStaged
  cases h : (s.contract src).staged with
  | none =>
    by_cases hi : i = src
    · simp [hi]
    · simp [hi]
  | some x => simp [setContract_contract]

theorem applyStaged_eventLaw {s : State} (h : s.EventLaw) (src : Fin 32) : (s.applyStaged src).EventLaw := by
  unfold applyStaged
  split
  · exact h
  · exact raise_eventLaw (s := s.setContract src _) h _

/-! ### Queueing and the drain -/

theorem enqueue_queue (s : State) (src : Fin 32) (r : StoredReq) (c : Fin 4) :
    (s.enqueue src r).queue c =
      if c = (s.contract src).settings.cls then s.queue (s.contract src).settings.cls ++ [r] else s.queue c :=
  setQueue_queue s _ c _

theorem queueCharged_contract (s : State) (src i : Fin 32) (r : StoredReq) :
    (s.queueCharged src r).contract i =
      if i = src then { s.contract src with balance := (s.contract src).balance - r.charge } else s.contract i := by
  simp [queueCharged, setBalance_contract]

theorem queueCharged_queue (s : State) (src : Fin 32) (r : StoredReq) (c : Fin 4) :
    (s.queueCharged src r).queue c =
      if c = (s.contract src).settings.cls then s.queue (s.contract src).settings.cls ++ [r] else s.queue c := by
  simp [queueCharged, enqueue_queue, setBalance_contract]

theorem queueCharged_eventLaw {s : State} (h : s.EventLaw) (src : Fin 32) (r : StoredReq) :
    (s.queueCharged src r).EventLaw :=
  countSource_eventLaw (s := (s.setBalance src _).enqueue src r) (by simpa [EventLaw] using h) _ _ _

/-- Everything a drain does to the contracts, the hold lists and the dispatch queues (R70): the oldest `k` requests of the source's list
have moved to the tail of its class queue, in order; their charges, each covered in turn, have left the balance; and the next head, if
there is one, is not covered. -/
theorem drainFuel_spec (src : Fin 32) (n : Nat) (s : State) (hn : (s.hold src).length ≤ n) :
    ∃ k ≤ (s.hold src).length,
      let moved := (s.hold src).take k
      let balance := (s.contract src).balance - (moved.map StoredReq.charge).sum
      (∀ i, (State.drainFuel src n s).hold i = if i = src then (s.hold src).drop k else s.hold i) ∧
      (∀ i, (State.drainFuel src n s).contract i =
        if i = src then { s.contract src with balance := balance } else s.contract i) ∧
      (∀ c, (State.drainFuel src n s).queue c =
        if c = (s.contract src).settings.cls then s.queue (s.contract src).settings.cls ++ moved else s.queue c) ∧
      (moved.map StoredReq.charge).sum ≤ (s.contract src).balance ∧
      ∀ r ∈ ((s.hold src).drop k).head?, balance < r.charge := by
  induction n generalizing s with
  | zero =>
    refine ⟨0, by omega, ?_⟩
    have hnil : s.hold src = [] := List.eq_nil_of_length_eq_zero (by omega)
    refine ⟨?_, ?_, ?_, by simp, by simp [hnil]⟩ <;> intro i <;> simp only [drainFuel] <;> split <;> simp_all
  | succ n ih =>
    unfold drainFuel
    split
    · rename_i hnil
      refine ⟨0, by simp [hnil], ?_⟩
      refine ⟨?_, ?_, ?_, by simp, by simp [hnil]⟩ <;> intro i <;> split <;> simp_all
    · rename_i r rest hcons
      split
      · rename_i hfit
        obtain ⟨k, hk, h1, h2, h3, h4, h5⟩ := ih ((s.setHold src rest).queueCharged src r)
          (by simpa [hcons] using hn)
        simp only [queueCharged_frame, setHold_hold_self, queueCharged_contract, if_true, setHold_contract] at h1 h2 h3 h4 h5 hk
        refine ⟨k + 1, by simpa [hcons] using hk, ?_⟩
        simp only [hcons, List.take_succ_cons, List.map_cons, List.sum_cons, List.drop_succ_cons]
        refine ⟨?_, ?_, ?_, by omega, ?_⟩
        · intro i
          rw [h1]
          split <;> simp_all
        · intro i
          rw [h2]
          split <;> simp_all [Nat.sub_sub]
        · intro c
          rw [h3]
          split <;> simp_all [queueCharged_queue]
        · intro r' hr'
          have := h5 r' hr'
          rw [← Nat.sub_sub]
          exact this
      · rename_i hfit
        refine ⟨0, by simp, ?_⟩
        refine ⟨?_, ?_, ?_, by simp, ?_⟩
        · intro i
          split <;> simp_all
        · intro i
          split <;> simp_all
        · intro i
          split <;> simp_all
        · simpa [hcons] using hfit

theorem drain_spec (s : State) (src : Fin 32) :
    ∃ k ≤ (s.hold src).length,
      let moved := (s.hold src).take k
      let balance := (s.contract src).balance - (moved.map StoredReq.charge).sum
      (∀ i, (s.drain src).hold i = if i = src then (s.hold src).drop k else s.hold i) ∧
      (∀ i, (s.drain src).contract i = if i = src then { s.contract src with balance := balance } else s.contract i) ∧
      (∀ c, (s.drain src).queue c =
        if c = (s.contract src).settings.cls then s.queue (s.contract src).settings.cls ++ moved else s.queue c) ∧
      (moved.map StoredReq.charge).sum ≤ (s.contract src).balance ∧
      ∀ r ∈ ((s.hold src).drop k).head?, balance < r.charge :=
  drainFuel_spec src _ s le_rfl

theorem drainFuel_eventLaw {s : State} (h : s.EventLaw) (src : Fin 32) (n : Nat) : (State.drainFuel src n s).EventLaw := by
  induction n generalizing s with
  | zero => exact h
  | succ n ih =>
    unfold drainFuel
    split
    · exact h
    · split
      · exact ih (queueCharged_eventLaw (s := s.setHold src _) h _ _)
      · exact h

/-! ### Expiries, head checks, boundaries and edges -/

theorem expireHead_eventLaw {s : State} (h : s.EventLaw) (src : Fin 32) (r : StoredReq) (rest : List StoredReq) :
    (s.expireHead src r rest).EventLaw := by
  unfold expireHead
  split
  · exact refuse_eventLaw (raise_eventLaw (s := s.setHold src rest) h _) _ _ _
  · refine countSource_eventLaw (s := ((s.setHold src rest).raise _).enqueue src r) ?_ _ _ _
    exact raise_eventLaw (s := s.setHold src rest) h _

theorem cascadeFuel_eventLaw {s : State} (h : s.EventLaw) (src : Fin 32) (n : Nat) :
    (State.cascadeFuel src n s).EventLaw := by
  induction n generalizing s with
  | zero => exact h
  | succ n ih =>
    unfold cascadeFuel
    split
    · exact h
    · split
      · exact ih (drainFuel_eventLaw (expireHead_eventLaw h _ _ _) _ _)
      · exact h

theorem drainAndCheck_eventLaw {s : State} (h : s.EventLaw) (src : Fin 32) : (s.drainAndCheck src).EventLaw :=
  cascadeFuel_eventLaw (drainFuel_eventLaw h _ _) _ _

theorem takeBoundary_eventLaw {s : State} (h : s.EventLaw) (src : Fin 32) : (s.takeBoundary src).EventLaw := by
  refine drainAndCheck_eventLaw ?_ src
  simpa [EventLaw] using applyStaged_eventLaw h src

theorem countEdge_eventLaw {s : State} (h : s.EventLaw) (n : Fin 4) (src : Fin 32) : (s.countEdge n src).EventLaw := by
  simp only [countEdge]
  split
  · split
    · exact takeBoundary_eventLaw (s := s.setEdgeCount src _) h src
    · exact h
  · exact h

theorem countEdges_eventLaw {s : State} (h : s.EventLaw) (n : Fin 4) (l : List (Fin 32)) : (s.countEdges n l).EventLaw := by
  induction l generalizing s with
  | nil => exact h
  | cons src rest ih => exact ih (countEdge_eventLaw h n src)

/-- A head expiry touches its source's contract in nothing. -/
theorem expireHead_hold (s : State) (src i : Fin 32) (r : StoredReq) (rest : List StoredReq) :
    (s.expireHead src r rest).hold i = if i = src then rest else s.hold i := by
  unfold expireHead
  split <;> simp [setHold_hold]

theorem drain_hold_length (s : State) (src : Fin 32) : ((s.drain src).hold src).length ≤ (s.hold src).length := by
  obtain ⟨k, -, h, -⟩ := drain_spec s src
  simp [h]

/-- After the head check and its cascade no head of the source's list has reached its wait limit (R76). -/
theorem cascadeFuel_not_due (src : Fin 32) (n : Nat) (s : State) (hn : (s.hold src).length ≤ n) :
    (State.cascadeFuel src n s).headDue src = false := by
  induction n generalizing s with
  | zero =>
    have hnil : s.hold src = [] := List.eq_nil_of_length_eq_zero (by omega)
    simp [cascadeFuel, headDue, hnil]
  | succ n ih =>
    unfold cascadeFuel
    split
    · rename_i hnil
      simp [headDue, hnil]
    · rename_i r rest hcons
      split
      · refine ih _ (le_trans (drain_hold_length _ _) ?_)
        rw [expireHead_hold, if_pos rfl]
        simpa [hcons] using hn
      · rename_i h
        simpa [headDue, hcons] using h

theorem headCheck_not_due (s : State) (src : Fin 32) : (s.headCheck src).headDue src = false :=
  cascadeFuel_not_due src _ s le_rfl

end State
end Sys2Proof.Machine
end

