-- ==== Sys2Proof/Laws/Lists.lean ====
section
/-! SUPPORT. Hold lists and trigger lines: refused and released lists, the drain with its head check, boundaries and qualifying edges, source by source. -/

namespace Sys2Proof.Machine

theorem setContract_setContract (s : State) (i) (a b : Contract) : (s.setContract i a).setContract i b = s.setContract i b := by
  simp [State.setContract]

theorem setContract_self (u : State) (i) : u.setContract i (u.contract i) = u := by simp [State.setContract, State.contract]

theorem setLine_setLine (s : State) (i) (a b : Line) : (s.setLine i a).setLine i b = s.setLine i b := by
  simp [State.setLine]

/-- A staged copy leaves the timer alone (R37, R98). -/
theorem applyStaged_timer (s : State) (src) : ((s.applyStaged src).contract src).timer = (s.contract src).timer := by
  rw [State.applyStaged_contract, if_pos rfl]; split <;> rfl

/-- Refusing a list reads and writes no contract. -/
theorem refuseList_setContract (s : State) (re) (l : List StoredReq) (i c) : (s.refuseList re l).setContract i c =
    (s.setContract i c).refuseList re l := by
  induction l generalizing s with
  | nil => rfl
  | cons r rest ih =>
    simp only [State.refuseList, ih]
    congr 1
    simp only [State.refuse, State.raise, State.countSource, State.raiseWrap]
    repeat' split
    all_goals simp_all [State.enabled]
    all_goals rfl

/-- Refusing a list reads and writes no dispatch queue. -/
theorem refuseList_setQueue (s : State) (re) (l : List StoredReq) (i c) : (s.refuseList re l).setQueue i c = (s.setQueue i c).refuseList re l := by
  induction l generalizing s with
  | nil => rfl
  | cons r rest ih =>
    simp only [State.refuseList, ih]
    congr 1
    simp only [State.refuse, State.raise, State.countSource, State.raiseWrap]
    repeat' split
    all_goals simp_all [State.enabled]
    all_goals rfl

/-- Refusing two lists one after the other. -/
theorem refuseList_append (s : State) (re) (a b : List StoredReq) : s.refuseList re (a ++ b) = (s.refuseList re a).refuseList re b := by
  induction a generalizing s with
  | nil => rfl
  | cons x y ih => exact ih _

/-- What DISABLE does with the hold list it releases (R41). -/
theorem releaseList_spec (src : Fin 32) (l : List StoredReq) (s : State) :
    s.releaseList src l = { s.setQueue (s.contract src).settings.cls (s.queue (s.contract src).settings.cls ++ l) with
      srcCounts := (s.releaseList src l).srcCounts, evq := (s.releaseList src l).evq } ∧
    (s.releaseList src l).srcCount src = { s.srcCount src with
      freeBeats := (s.srcCount src).freeBeats + BitVec.ofNat 32 (l.map StoredReq.beats).sum } ∧
    (∀ i, i ≠ src → (s.releaseList src l).srcCount i = s.srcCount i) ∧
    ((s.srcCount src).freeBeats.toNat + (l.map StoredReq.beats).sum < 2 ^ 32 → (s.releaseList src l).evq = s.evq) := by
  induction l generalizing s with
  | nil => simp [State.releaseList, State.setQueue, State.queue]
  | cons r rest ih =>
    obtain ⟨h1, h2, h3, h4⟩ := ih ((s.enqueue src r).countSource src .freeBeats r.beats)
    have hc : ((s.enqueue src r).countSource src .freeBeats r.beats).contract src = s.contract src := by simp
    have hs : ((s.enqueue src r).countSource src .freeBeats r.beats).srcCount src =
        { s.srcCount src with freeBeats := (s.srcCount src).freeBeats + BitVec.ofNat 32 r.beats } := by
      rw [State.countSource_srcCount, if_pos rfl]; simp [SourceCounts.put, SourceCounts.get]
    simp only [State.releaseList]
    refine ⟨?_, ?_, ?_, ?_⟩
    · refine h1.trans ?_
      rw [hc]
      have hq : (s.enqueue src r).queues =
          s.queues.set (s.contract src).settings.cls (s.queue (s.contract src).settings.cls ++ [r]) := rfl
      simp [State.setQueue, State.queue, hq]
    · rw [h2, hs]
      simp [BitVec.add_assoc, BitVec.ofNat_add]
    · intro i hi
      rw [h3 i hi, State.countSource_srcCount, if_neg hi]; simp
    · intro hb
      simp only [List.map_cons, List.sum_cons] at hb
      have hf : (((s.enqueue src r).countSource src .freeBeats r.beats).srcCount src).freeBeats.toNat =
          (s.srcCount src).freeBeats.toNat + r.beats := by
        rw [hs]
        simp only [BitVec.toNat_add, BitVec.toNat_ofNat]
        omega
      have hw : wraps (((s.enqueue src r).srcCount src).get .freeBeats) r.beats = false := by
        refine decide_eq_false ?_
        change ¬ 2 ^ 32 ≤ (s.srcCount src).freeBeats.toNat + r.beats
        omega
      rw [h4 (by omega), State.countSource_evq, hw]
      rfl

/-- The drain changes nothing but contracts, lists, queues, source counts and events. -/
theorem drainFuel_eq (src : Fin 32) (n : Nat) (s : State) :
    State.drainFuel src n s = { s with
      contracts := (State.drainFuel src n s).contracts, holds := (State.drainFuel src n s).holds
      queues := (State.drainFuel src n s).queues, srcCounts := (State.drainFuel src n s).srcCounts
      evq := (State.drainFuel src n s).evq } := by
  have := State.drainFuel_frame src n s
  generalize State.drainFuel src n s = t at *
  cases t; simp_all

/-- The head wait, as R73 gives it. -/
theorem reachedLimit_iff (s : State) (src r) : s.reachedLimit src r = true ↔ (s.contract src).state = .paced ∧
    (s.contract src).settings.waitLimit ≠ 0 ∧ 4 * (s.contract src).settings.waitLimit ≤ (s.timeBase - r.arrival).toNat := by
  unfold State.reachedLimit
  rw [Bool.and_eq_true, Bool.and_eq_true, decide_eq_true_eq, decide_eq_true_eq, decide_eq_true_eq, and_assoc]; rfl

/-- A head that is not due is below its limit (R73). -/
theorem not_due_of_headDue_false {s : State} {src} (h : s.headDue src = false) (h1 : (s.contract src).state = .paced) (h2 :
    (s.contract src).settings.waitLimit ≠ 0) : ∀ r ∈ (s.hold src).head?, (s.timeBase - r.arrival).toNat < 4 *
        (s.contract src).settings.waitLimit := by
  intro r hr
  unfold State.headDue at h
  cases hc : s.hold src with
  | nil => rw [hc] at hr; cases hr
  | cons a b =>
    rw [hc] at h hr; cases hr
    simp only [] at h; rw [← Bool.not_eq_true, reachedLimit_iff] at h
    by_contra hc; exact h ⟨h1, h2, not_lt.mp hc⟩

/-- Fuel beyond the length of the list changes nothing (log 14). -/
theorem cascadeFuel_enough (src : Fin 32) (n m : Nat) (s : State) (h1 : (s.hold src).length ≤ n) (h2 : (s.hold src).length ≤ m) :
    State.cascadeFuel src n s = State.cascadeFuel src m s := by
  induction n generalizing s m with
  | zero =>
    have hnil : s.hold src = [] := List.eq_nil_of_length_eq_zero (by omega)
    cases m with
    | zero => rfl
    | succ m => unfold State.cascadeFuel; simp [hnil]
  | succ n ih =>
    cases m with
    | zero =>
      have hnil : s.hold src = [] := List.eq_nil_of_length_eq_zero (by omega)
      unfold State.cascadeFuel; simp [hnil]
    | succ m =>
      unfold State.cascadeFuel
      cases hc : s.hold src with
      | nil => rfl
      | cons r rest =>
        simp only []
        split
        · have : (((s.expireHead src r rest).drain src).hold src).length ≤ rest.length := by
            refine le_trans (State.drain_hold_length _ _) ?_
            rw [State.expireHead_hold, if_pos rfl]
          rw [hc] at h1 h2; simp at h1 h2
          exact ih _ _ (by omega) (by omega)
        · rfl

/-- A cascade leaves the other sources alone. -/
theorem cascadeFuel_other (src i : Fin 32) (hi : i ≠ src) (n) (s : State) : (State.cascadeFuel src n s).contract i = s.contract i ∧
    (State.cascadeFuel src n s).hold i = s.hold i := by
  induction n generalizing s with
  | zero => exact ⟨rfl, rfl⟩
  | succ n ih =>
    unfold State.cascadeFuel
    split
    · exact ⟨rfl, rfl⟩
    · rename_i r rest hc
      split
      · obtain ⟨a, b⟩ := ih ((s.expireHead src r rest).drain src)
        obtain ⟨k, -, h1, h2, -⟩ := State.drain_spec (s.expireHead src r rest) src
        rw [a, b, h1, h2, if_neg hi, if_neg hi, State.expireHead_hold, if_neg hi]; simp
      · exact ⟨rfl, rfl⟩

/-- A cascade changes nothing of its source's contract but the balance. -/
theorem cascadeFuel_self (src : Fin 32) (n) (s : State) : ∃ b, (State.cascadeFuel src n s).contract src = { s.contract src with balance := b } := by
  induction n generalizing s with
  | zero => exact ⟨_, rfl⟩
  | succ n ih =>
    unfold State.cascadeFuel
    split
    · exact ⟨_, rfl⟩
    · rename_i r rest hc
      split
      · obtain ⟨a, b⟩ := ih ((s.expireHead src r rest).drain src)
        obtain ⟨k, -, h1, h2, -⟩ := State.drain_spec (s.expireHead src r rest) src
        rw [b, h2, if_pos rfl]; exact ⟨a, by simp⟩
      · exact ⟨_, rfl⟩

/-- Drain and head check leave the other sources alone. -/
theorem drainAndCheck_other (src i : Fin 32) (hi : i ≠ src) (s : State) : (s.drainAndCheck src).contract i = s.contract i ∧
    (s.drainAndCheck src).hold i = s.hold i := by
  obtain ⟨a, b⟩ := cascadeFuel_other src i hi ((s.drain src).hold src).length (s.drain src)
  obtain ⟨k, -, h1, h2, -⟩ := State.drain_spec s src
  refine ⟨a.trans ?_, b.trans ?_⟩
  · rw [h2, if_neg hi]
  · rw [h1, if_neg hi]

/-- Drain and head check change nothing of their source's contract but the balance. -/
theorem drainAndCheck_self (src : Fin 32) (s : State) : ∃ b, (s.drainAndCheck src).contract src = { s.contract src with balance := b } := by
  obtain ⟨a, b⟩ := cascadeFuel_self src ((s.drain src).hold src).length (s.drain src)
  obtain ⟨k, -, h1, h2, -⟩ := State.drain_spec s src
  refine ⟨a, b.trans ?_⟩
  rw [h2, if_pos rfl]

/-- An empty list gives no drain and no head check. -/
theorem drainAndCheck_nil (src : Fin 32) (s : State) (h : s.hold src = []) : s.drainAndCheck src = s := by
  simp [State.drainAndCheck, State.drain, h, State.drainFuel, State.headCheck, State.cascadeFuel]

/-- A boundary leaves the other sources alone. -/
theorem takeBoundary_other (src i : Fin 32) (hi : i ≠ src) (s : State) : (s.takeBoundary src).contract i = s.contract i ∧
    (s.takeBoundary src).hold i = s.hold i := by
  obtain ⟨a, b⟩ := drainAndCheck_other src i hi (((s.applyStaged src).refill src).nextPeriod src)
  refine ⟨a.trans ?_, b.trans (by simp)⟩
  unfold State.nextPeriod
  split <;> simp [State.setEdgeCount_contract, State.refill_contract, State.applyStaged_contract, hi]

/-- Which levels are qualifying edges (R102). -/
theorem qualifies_iff (e : EdgeSetting) (l : Level) : e.qualifies l = true ↔ (e = .both ∨ (e = .rising ∧ l = .high) ∨ (e = .falling ∧ l = .low)) := by
  cases e <;> cases l <;> simp [EdgeSetting.qualifies]

/-- Counting an edge at one source leaves the others alone (R104). -/
theorem countEdge_other (n : Fin 4) (src i : Fin 32) (hi : i ≠ src) (s : State) : (s.countEdge n src).contract i = s.contract i ∧
    (s.countEdge n src).hold i = s.hold i := by
  simp only [State.countEdge]
  split
  · split
    · obtain ⟨a, b⟩ := takeBoundary_other src i hi (s.setEdgeCount src ((s.contract src).edgeCount + 1))
      exact ⟨a.trans (by simp [State.setEdgeCount_contract, hi]), b.trans (by simp)⟩
    · exact ⟨by simp [State.setEdgeCount_contract, hi], by simp⟩
  · exact ⟨rfl, rfl⟩

/-- Counting an edge leaves a source alone that is not among those counted. -/
theorem countEdges_other (n : Fin 4) (i : Fin 32) (l : List (Fin 32)) (hi : i ∉ l) (s : State) : (s.countEdges n l).contract i =
    s.contract i ∧ (s.countEdges n l).hold i = s.hold i := by
  induction l generalizing s with
  | nil => exact ⟨rfl, rfl⟩
  | cons a b ih =>
    simp at hi
    obtain ⟨x, y⟩ := ih hi.2 (s.countEdge n a)
    obtain ⟨z, w⟩ := countEdge_other n a i hi.1 s
    exact ⟨x.trans z, y.trans w⟩

theorem countEdges_append (n : Fin 4) (a b : List (Fin 32)) (s : State) : s.countEdges n (a ++ b) = (s.countEdges n a).countEdges n b := by
  induction a generalizing s with
  | nil => rfl
  | cons x y ih => exact ih _

/-- What a qualifying edge does at one source is what its own count does (R103, R104). -/
theorem qualifyingEdge_local (n : Fin 4) (src : Fin 32) (s : State) : ∃ u : State, u.contract src = s.contract src ∧ u.hold src =
    s.hold src ∧ (s.qualifyingEdge n).contract src = (u.countEdge n src).contract src ∧ (s.qualifyingEdge n).hold src =
        (u.countEdge n src).hold src := by
  have hsp : ∃ a b, List.finRange 32 = a ++ src :: b ∧ src ∉ a ∧ src ∉ b := by
    obtain ⟨a, b, h⟩ := List.append_of_mem (List.mem_finRange src)
    have nd := List.nodup_finRange 32
    rw [h] at nd
    refine ⟨a, b, h, ?_, ?_⟩
    · intro hc; rw [List.nodup_append] at nd; exact nd.2.2 src hc src (by simp) rfl
    · intro hc; rw [List.nodup_append] at nd; have := nd.2.1; simp at this; exact this.1 hc
  obtain ⟨a, b, h, ha, hb⟩ := hsp
  refine ⟨s.countEdges n a, (countEdges_other n src a ha s).1, (countEdges_other n src a ha s).2, ?_, ?_⟩
  · unfold State.qualifyingEdge; rw [h, countEdges_append]; exact (countEdges_other n src b hb _).1
  · unfold State.qualifyingEdge; rw [h, countEdges_append]; exact (countEdges_other n src b hb _).2

/-- An empty list gives no drain. -/
theorem drain_nil {s : State} {src} (h : s.hold src = []) : s.drain src = s := by
  simp [State.drain, h, State.drainFuel]

/-- One round of the drain (R70): a covered head is queued and charged, and the drain goes on; a head that is not covered ends it. -/
theorem drain_cons {s : State} {src} {r : StoredReq} {rest} (h : s.hold src = r :: rest) :
    s.drain src =
      if r.charge ≤ (s.contract src).balance then ((s.setHold src rest).queueCharged src r).drain src else s := by
  unfold State.drain
  rw [h, List.length_cons, State.drainFuel]
  simp only [h]
  split
  · rw [show ((s.setHold src rest).queueCharged src r).hold src = rest by simp]
  · rfl

/-- What a queued request counts (R69, R70). -/
theorem queueCharged_srcCount (s : State) (src i : Fin 32) (r : StoredReq) :
    (s.queueCharged src r).srcCount i = if i = src then { s.srcCount src with
        chargedBeats := (s.srcCount src).chargedBeats + BitVec.ofNat 32 r.charge
        freeBeats := (s.srcCount src).freeBeats + BitVec.ofNat 32 (if r.charge = 0 then r.beats else 0) }
      else s.srcCount i := by
  unfold State.queueCharged
  rw [State.countSource_srcCount]
  split
  · split
    · rename_i h; simp [h, SourceCounts.put, SourceCounts.get]
    · simp [SourceCounts.put, SourceCounts.get]
  · simp

/-- What a drain counts: the charges of the requests that leave the list, and the beats of those of charge 0 (R69, R70). -/
theorem drain_srcCount (src : Fin 32) (l : List StoredReq) : ∀ s : State, s.hold src = l →
    (s.drain src).srcCount src = { s.srcCount src with
      chargedBeats := (s.srcCount src).chargedBeats
        + BitVec.ofNat 32 ((l.take (l.length - ((s.drain src).hold src).length)).map StoredReq.charge).sum
      freeBeats := (s.srcCount src).freeBeats
        + BitVec.ofNat 32 (((l.take (l.length - ((s.drain src).hold src).length)).filter fun r => r.charge = 0).map StoredReq.beats).sum } ∧
    ∀ i, i ≠ src → (s.drain src).srcCount i = s.srcCount i := by
  induction l with
  | nil => intro s h; rw [drain_nil h]; simp
  | cons r rest ih =>
    intro s h
    rw [drain_cons h]
    split
    · have hu : ((s.setHold src rest).queueCharged src r).hold src = rest := by simp
      obtain ⟨h1, h2⟩ := ih _ hu
      have hle := State.drain_hold_length ((s.setHold src rest).queueCharged src r) src
      rw [hu] at hle
      have ht : (r :: rest).take ((r :: rest).length - ((((s.setHold src rest).queueCharged src r).drain src).hold src).length) =
          r :: rest.take (rest.length - ((((s.setHold src rest).queueCharged src r).drain src).hold src).length) := by
        rw [List.length_cons, show rest.length + 1 - ((((s.setHold src rest).queueCharged src r).drain src).hold src).length =
          (rest.length - ((((s.setHold src rest).queueCharged src r).drain src).hold src).length) + 1 by omega, List.take_succ_cons]
      rw [ht]
      refine ⟨?_, ?_⟩
      · rw [h1, queueCharged_srcCount, if_pos rfl]
        simp only [State.setHold_srcCount, List.map_cons, List.sum_cons, List.filter_cons]
        by_cases hz : r.charge = 0
        · simp [hz, BitVec.add_assoc, BitVec.ofNat_add]
        · simp [hz, BitVec.add_assoc, BitVec.ofNat_add]
      · intro i hi
        rw [h2 i hi, queueCharged_srcCount, if_neg hi]; simp
    · simp [h]

/-- The drain and its head check, where the head it leaves is not due (R76). -/
theorem drainAndCheck_of_not_due {s : State} {src} (h : (s.drain src).headDue src = false) : s.drainAndCheck src = s.drain src := by
  unfold State.drainAndCheck State.headCheck
  generalize s.drain src = d at *
  unfold State.headDue at h
  cases hc : d.hold src with
  | nil => rfl
  | cons r rest =>
    rw [hc] at h
    simp only [List.length_cons, State.cascadeFuel, hc]
    simp only [] at h
    rw [h]; rfl

/-- The drain and its head check, where the head it leaves is due: it expires, and the drain and the head check go on (R76). -/
theorem drainAndCheck_of_due {s : State} {src} {r rest} (h : (s.drain src).hold src = r :: rest) (hd : (s.drain src).reachedLimit src r = true) :
    s.drainAndCheck src = ((s.drain src).expireHead src r rest).drainAndCheck src := by
  unfold State.drainAndCheck State.headCheck
  generalize s.drain src = d at *
  simp only [h, List.length_cons, State.cascadeFuel]
  rw [if_pos hd]
  refine cascadeFuel_enough _ _ _ _ ?_ le_rfl
  refine le_trans (State.drain_hold_length _ _) ?_
  rw [State.expireHead_hold, if_pos rfl]

/-- COUNTER_WRAP depends on the counts, the mask, the time and the queue alone. -/
theorem countSource_evq_congr {s t : State} (src) (k) (n) (hc : ∀ i, s.srcCount i = t.srcCount i) (he : s.evq = t.evq)
    (ht : s.timeBase = t.timeBase) (hg : s.globals = t.globals) :
    (s.countSource src k n).evq = (t.countSource src k n).evq := by
  simp only [State.countSource_evq, State.raiseWrap, hc]
  split <;> simp [State.raise_evq, State.enabled, he, ht, hg]

/-- The events of a release: a COUNTER_WRAP for each increment of FREE_BEATS that wraps (R41, R147). -/
theorem releaseList_evq (src : Fin 32) (l : List StoredReq) : ∀ s u : State, (∀ i, s.srcCount i = u.srcCount i) → s.evq = u.evq →
    s.timeBase = u.timeBase → s.globals = u.globals →
    (s.releaseList src l).evq =
      (l.foldl (fun (u : State) (r : StoredReq) => u.countSource src .freeBeats r.beats) u).evq := by
  induction l with
  | nil => intro s u _ he _ _; exact he
  | cons r rest ih =>
    intro s u hc he ht hg
    refine ih _ _ ?_ ?_ ?_ ?_
    · intro i; simp [State.countSource_srcCount, hc]
    · exact countSource_evq_congr _ _ _ (fun i => by simp [hc]) (by simpa using he) (by simpa using ht) (by simpa using hg)
    · simpa using ht
    · simpa using hg

/-- An event raised depends on the mask, the time and the queue alone. -/
theorem raise_evq_congr {s t : State} (e) (he : s.evq = t.evq) (ht : s.timeBase = t.timeBase) (hg : s.globals = t.globals) :
    (s.raise e).evq = (t.raise e).evq := by
  simp [State.raise_evq, State.enabled, he, ht, hg]

/-- The events of TRAFFIC_RESET: CONTRACT_APPLIED for each staged copy of a PACED source (R57, R178). -/
theorem restartContracts_evq (s0 : State) : ∀ (l : List (Fin 32)) (s u : State), l.Nodup → (∀ i ∈ l, s.contract i = s0.contract i) →
    s.evq = u.evq → s.timeBase = u.timeBase → s.globals = u.globals →
    (s.restartContracts l).evq = (l.foldl (fun (u : State) (i : Fin 32) =>
      if (s0.contract i).state = .paced ∧ (s0.contract i).staged ≠ none then u.raise (.contractApplied i) else u) u).evq := by
  intro l
  induction l with
  | nil => intro s u _ _ he _ _; exact he
  | cons x rest ih =>
    intro s u hd hc he ht hg
    rw [State.restartContracts, List.foldl_cons]
    have hx := hc x (by simp)
    have hev : (s.restartContract x).evq =
        (if (s0.contract x).state = .paced ∧ (s0.contract x).staged ≠ none then u.raise (.contractApplied x) else u).evq := by
      unfold State.restartContract
      rw [hx]
      split
      · rename_i hp
        simp only [State.startTimer_frame, State.setEdgeCount_frame, State.setBalance_frame, hp, true_and]
        unfold State.applyStaged
        rw [hx]
        cases hs : (s0.contract x).staged with
        | none => simpa using he
        | some y => simpa using raise_evq_congr (s := s.setContract x _) (t := u) (.contractApplied x) he ht hg
      · rename_i hp; simp [hp, he]
    refine ih _ _ (List.nodup_cons.1 hd).2 ?_ hev ?_ ?_
    · intro i hi
      have hne : i ≠ x := fun e => (List.nodup_cons.1 hd).1 (e ▸ hi)
      rw [← hc i (by simp [hi])]
      unfold State.restartContract
      split
      · simp [State.startTimer_contract, State.setEdgeCount_contract, State.setBalance_contract, State.applyStaged_contract, hne]
      · rfl
    · unfold State.restartContract; split <;> split <;> simp [ht]
    · unfold State.restartContract; split <;> split <;> simp [hg]

end Sys2Proof.Machine
end

