-- ==== Sys2Proof/Laws/Port.lean ====
section
/-! SUPPORT. The management port: when an answer is given, the checks of a frame, and the coding of fields read back. -/

namespace Sys2Proof.Machine

/-- A listening port takes an answer as it stands (R169, R174). -/
theorem manage_listening {s : State} (h : s.listening) (o : Byte) (a : Answer) : s.manage o a = .next (a.state.answered o a.status a.data) :=
  if_pos h

/-- A port that does not listen takes no command (R174). -/
theorem manage_not_listening {s : State} (h : ¬ s.listening) (o : Byte) (a : Answer) : s.manage o a = .next s :=
  if_neg h

/-- A management command leaves alone what waits to come from outside, when its effect does. -/
theorem manage_keeps_queue (s : State) (o : Byte) (a : Answer) (hp : a.state.pending = s.pending) (hw : a.state.wire = s.wire)
    (hc : a.state.choices = s.choices) :
    ∃ t, s.manage o a = .next t ∧ t.pending = s.pending ∧ t.wire = s.wire ∧ t.choices = s.choices := by
  by_cases h : s.listening
  · exact ⟨_, manage_listening h o a, hp, hw, hc⟩
  · exact ⟨_, manage_not_listening h o a, rfl, rfl, rfl⟩

/-- A length byte of at most 48 leaves a command its own checks (R173). -/
theorem judged_of_len_le {f : Frame} (s : State) (a : Answer) (h : f.len.toNat ≤ 48) : judged f s a = a := by
  have : f.tooLong = false := decide_eq_false (by simpa using h)
  simp [judged, this]

/-- An index byte in range names its index. -/
theorem indexBelow_eq_some {n : Nat} (i : Fin n) {v : Nat} (h : v = i.val) : indexBelow n v = some i := by
  subst h; simp [indexBelow]

/-- An index byte out of range names none. -/
theorem indexBelow_eq_none {n : Nat} {v : Nat} (h : n ≤ v) : indexBelow n v = none := by
  simp [indexBelow]; omega

theorem badLength_of_ne {f : Frame} {n} (h : f.len.toNat ≠ n) : f.badLength n = true := decide_eq_true h

theorem badLength_of_eq {f : Frame} {n} (h : f.len.toNat = n) : f.badLength n = false := decide_eq_false (by simpa using h)

/-- A source command that passes its checks has its effect and is answered OK (R39). -/
theorem answerSource_runs (cmd : SourceCmd) (eff) {f : Frame} {s : State} {src : Fin 32} (h : s.listening) (hi : f.index.toNat = src.val)
    (hl : f.len.toNat = 1) (hc : SourceCmd.ofCode (f.u8 0) = some cmd) (ha : SourceCmd.allowed cmd (s.contract src) = true) :
   s.manage 0x12#8 (judged f s (answerSource cmd eff f s)) = .next ((eff s src).answered 0x12#8 .ok []) := by
  rw [judged_of_len_le (f := f) s (h := by omega), manage_listening h]
  simp [answerSource, indexBelow_eq_some src hi, badLength_of_eq hl, hc, ha]

/-- A source command that the state does not allow is answered STATE (R39). -/
theorem answerSource_refuses_state (cmd : SourceCmd) (eff) {f : Frame} {s : State} {src : Fin 32} (h : s.listening) (hi : f.index.toNat =
    src.val) (hl : f.len.toNat = 1) (hc : SourceCmd.ofCode (f.u8 0) = some cmd) (ha : SourceCmd.allowed cmd (s.contract src) = false) :
   s.manage 0x12#8 (judged f s (answerSource cmd eff f s)) = .next (s.answered 0x12#8 .state []) := by
  rw [judged_of_len_le (f := f) s (h := by omega), manage_listening h]
  simp [answerSource, indexBelow_eq_some src hi, badLength_of_eq hl, hc, ha, refused]

/-- A well-formed frame of length at most 48 has that many payload bytes (R168). -/
theorem payload_length_of_wellFormed {f : Frame} {n : Nat} (hw : f.WellFormed = true) (hl : f.len.toNat = n) (hn : n ≤ 48) :
    f.payload.length = n := by
  have hw : f.payload.length = payloadRead f.len := of_decide_eq_true hw
  unfold payloadRead at hw
  rw [hw, if_pos (by simpa [hl] using hn), hl]

/-- A four-byte field is returned as it was read. -/
theorem bytes4_of_bytes (a b c d : Byte) : bytes4 (65536 * (256 * a.toNat + b.toNat) + (256 * c.toNat + d.toNat)) = [a, b, c, d] := by
  have := a.isLt; have := b.isLt; have := c.isLt; have := d.isLt
  simp only [bytes4, byteOf, List.cons.injEq, and_true]
  refine ⟨?_, ?_, ?_, ?_⟩ <;> apply BitVec.eq_of_toNat_eq <;> rw [BitVec.toNat_ofNat] <;> omega

/-- A two-byte field is returned as it was read. -/
theorem bytes2_of_bytes (c d : Byte) : bytes2 (256 * c.toNat + d.toNat) = [c, d] := by
  have := c.isLt; have := d.isLt
  simp only [bytes2, byteOf, List.cons.injEq, and_true]
  refine ⟨?_, ?_⟩ <;> apply BitVec.eq_of_toNat_eq <;> rw [BitVec.toNat_ofNat] <;> omega

theorem byteOf_toNat (a : Byte) : byteOf a.toNat = a := by simp [byteOf]

theorem weight_ofCode_spec (n : Nat) : (∃ w, Weight.ofCode n = some w ∧ w.beats = n) ∨ (Weight.ofCode n = none ∧ n ≠ 1 ∧ n ≠ 2 ∧ n ≠ 4) := by
  unfold Weight.ofCode; split
  · exact .inl ⟨_, rfl, rfl⟩
  · exact .inl ⟨_, rfl, rfl⟩
  · exact .inl ⟨_, rfl, rfl⟩
  · exact .inr ⟨rfl, by assumption, by assumption, by assumption⟩

theorem weight_ofCode_beats (w : Weight) : Weight.ofCode w.beats = some w := by cases w <;> rfl

theorem regionAction_ofCode_code (w : RegionAction) : RegionAction.ofCode w.code = some w := by cases w <;> rfl

theorem regionAction_ofCode_none {n : Nat} (h : 2 < n) : RegionAction.ofCode n = none := by
  unfold RegionAction.ofCode; split <;> first | omega | rfl

theorem weight_ofCode_none {n : Nat} (h : n ≠ 1 ∧ n ≠ 2 ∧ n ≠ 4) : Weight.ofCode n = none := by
  unfold Weight.ofCode; split <;> first | omega | rfl

theorem validOfCode_none {n : Nat} (h : 1 < n) : validOfCode n = none := by
  unfold validOfCode; split <;> first | omega | rfl

theorem policy_ofCode_none {n : Nat} (h : 1 < n) : Policy.ofCode n = none := by
  unfold Policy.ofCode; split <;> first | omega | rfl

theorem policy_ofCode_code (w : Policy) : Policy.ofCode w.code = some w := by cases w <;> rfl

end Sys2Proof.Machine
end

