-- ==== Sys2Proof/Laws/Requests.lean ====
section
/-! SUPPORT. Requests and completions: tags, the take, slots, eligibility, and the counters read back. -/

namespace Sys2Proof.Machine

@[simp] theorem raise_enabled (s : State) (e : Event) : (s.raise e).enabled = s.enabled := by
  funext x; simp [State.enabled]

theorem wireTag_inj (a b : Fin 16) : wireTag a = wireTag b ↔ a = b := by
  simp [wireTag, Fin.ext_iff]

theorem liveTag_wireTag (tag : Fin 16) : liveTag? (wireTag tag) = some tag := by
  simp [liveTag?, wireTag]

theorem liveTag_none_of_ge (tag : Fin 64) (h : 16 ≤ tag.val) : liveTag? tag = none := by
  simp [liveTag?]; omega

theorem canTake_of_open {s : State} (h1 : s.resetN = .high) (h2 : s.upRdy = .high) (h3 : s.tickets < 160) : s.canTake = true := by
  simp [State.canTake, h1, h2, h3]

/-- A request that passes the checks at the take reaches the arrival decision (R5, R7 to R10). -/
theorem exec_take_accepted {s : State} {h d k tag} (ha : s.accepts (Request.ofMessage h d) k tag) :
    exec (.take h d) s = .next ((s.arrived (Request.ofMessage h d).source tag).decideArrival (Request.ofMessage h d) k tag) := by
  obtain ⟨h1, h2, h3, ht, hl, hk, a1, a2, a3⟩ := ha
  have hct := canTake_of_open h1 h2 h3
  have hl' : ({ s with tickets := s.tickets + 1 } : State).live (Request.ofMessage h d).source tag = false := hl
  simp only [exec, execTake, hct, if_true, State.takeRequest]
  rw [ht, liveTag_wireTag]
  simp only [hl', Bool.false_eq_true, if_false, hk]
  have hb : badForm (Request.ofMessage h d) k = false := by
    unfold badForm
    cases k <;> simp_all
  rw [hb]; rfl

@[simp] theorem arrived_decodeRegion (s : State) (a : Fin 32) (t : Fin 16) (x y z) : (s.arrived a t).decodeRegion x y z = s.decodeRegion x y z := by
  simp [State.decodeRegion, State.matchRegion, State.arrived]

@[simp] theorem arrived_contract (s : State) (a : Fin 32) (t : Fin 16) (x) : (s.arrived a t).contract x = s.contract x := by
  simp [State.arrived]; rfl

@[simp] theorem arrived_hold (s : State) (a : Fin 32) (t : Fin 16) (x) : (s.arrived a t).hold x = s.hold x := by
  simp [State.arrived]; rfl

@[simp] theorem arrived_queue (s : State) (a : Fin 32) (t : Fin 16) (x) : (s.arrived a t).queue x = s.queue x := by
  simp [State.arrived]; rfl

@[simp] theorem arrived_timeBase (s : State) (a : Fin 32) (t : Fin 16) : (s.arrived a t).timeBase = s.timeBase := by
  simp [State.arrived]

@[simp] theorem arrived_returnQ (s : State) (a : Fin 32) (t : Fin 16) : (s.arrived a t).returnQ = s.returnQ := by
  simp [State.arrived]

@[simp] theorem arrived_slotState (s : State) (a : Fin 32) (t : Fin 16) (x) : (s.arrived a t).slotState x = s.slotState x := by
  simp [State.slotState, State.slotHeld, State.slotQueued]

/-- The slot given is the FREE one with no FREE one below it (R59). -/
theorem freeSlot_eq_some {s : State} {slot : Fin 96} (h1 : s.slotState slot = .free) (h2 : ∀ i < slot, s.slotState i ≠ .free) :
    s.freeSlot = some slot := by
  unfold State.freeSlot
  rw [List.find?_eq_some_iff_getElem]
  refine ⟨by simp [h1], slot.val, by simp, by simp, ?_⟩
  intro j hj
  simp only [List.getElem_finRange]
  have := h2 ⟨j, by omega⟩ hj
  simpa using this

/-- No slot is given when none is FREE (R64). -/
theorem freeSlot_eq_none {s : State} (h : ∀ i, s.slotState i ≠ .free) : s.freeSlot = none := by
  simp [State.freeSlot, h]

theorem arrived_freeSlot (s : State) (a : Fin 32) (t : Fin 16) : (s.arrived a t).freeSlot = s.freeSlot := by
  simp [State.freeSlot]

/-- Eligibility, as R114 lists it. -/
theorem eligible_iff (s : State) (c) : s.eligible c = true ↔ (s.queue c ≠ [] ∧ 1 ≤ (s.cls c).credits ∧ (∃ d, s.entry d = .free) ∧ s.dnRdy =
    .high ∧ s.resetN = .high) := by
  have : s.freeEntry.isSome = true ↔ ∃ d, s.entry d = .free := by
    simp [State.freeEntry, List.find?_isSome]
    refine exists_congr fun d => ?_
    cases s.entry d <;> simp [Entry.isFree]
  simp only [State.eligible, Bool.and_eq_true, this, decide_eq_true_eq, Bool.not_eq_true', List.isEmpty_eq_false_iff, and_assoc, ne_eq]

/-- What answers an ACTIVE entry (R129). -/
theorem answerOf_eq (r : Outstanding) (m : DCompletion) : answerOf r m = (if (m.isOk = true ∧ (r.kind = .read → m.data.length =
    r.beats)) then .ok else .memError, if (m.isOk = true ∧ (r.kind = .read → m.data.length = r.beats)) ∧ r.kind = .read then m.data else []) := by
  unfold answerOf
  cases r.kind <;> cases m.isOk <;> simp
  split <;> simp_all

theorem sourceCounts_get_put (c : SourceCounts) (k) (v) : (c.put k v).get k = v := by cases k <;> rfl

theorem sourceCounts_get_put_ne (c : SourceCounts) (k j) (v) (h : j ≠ k) : (c.put k v).get j =
    c.get j := by cases k <;> cases j <;> first | rfl | exact absurd rfl h

theorem classCounts_get_put (c : ClassCounts) (k) (v) : (c.put k v).get k = v := by cases k <;> simp [ClassCounts.get, ClassCounts.put]

theorem classCounts_get_put_ne (c : ClassCounts) (k j) (v) (h : j ≠ k) : (c.put k v).get j = c.get j := by
  cases k <;> cases j <;> first | rfl | exact absurd rfl h | skip
  simp [ClassCounts.get, ClassCounts.put]
  rw [Vector.getElem_set_ne]; intro hc; exact h (by rw [Fin.ext hc])

theorem globalCounts_get_put (c : GlobalCounts) (k) (v) : (c.put k v).get k = v := by cases k <;> rfl

theorem globalCounts_get_put_ne (c : GlobalCounts) (k j) (v) (h : j ≠ k) : (c.put k v).get j =
    c.get j := by cases k <;> cases j <;> first | rfl | exact absurd rfl h

end Sys2Proof.Machine
end

