-- ==== Sys2Proof/Laws/Spi.lean ====
section
/-! SUPPORT. The management port at its pins, and the step: what a pin change writes, when the port takes a command, and the one case split
on a step. -/

namespace Sys2Proof.Machine

/-- A rise of MSCK writes nothing but the port. -/
theorem clockRise_frame (s : State) : s.clockRise.1 = { s with port := s.clockRise.1.port } := by
  unfold State.clockRise
  split
  · rfl
  · dsimp only; split <;> rfl

/-- A rise of MCS_N writes nothing but the port, its response and the ignored period. -/
theorem deselect_frame (s : State) : s.deselect.1 = { s with
    port := s.deselect.1.port, response := s.deselect.1.response, portIgnore := s.deselect.1.portIgnore } := by
  unfold State.deselect
  repeat' split
  all_goals rfl

/-- A pin that has changed writes nothing but the port, its response and the ignored period. -/
theorem portChanged_frame (s : State) (e : PortEdge) : (s.portChanged e).1 = { s with
    port := (s.portChanged e).1.port, response := (s.portChanged e).1.response, portIgnore := (s.portChanged e).1.portIgnore } := by
  unfold State.portChanged
  repeat' split
  all_goals first
    | rfl
    | exact deselect_frame s
    | exact (clockRise_frame s).trans (by rw [clockRise_frame])

/-- A pin change writes nothing but the port, its response and the ignored period; what it gives to be taken it has not yet done. -/
theorem portEdge_frame (s : State) (e : PortEdge) :
    (s.portEdge e).1 = { s with
      port := (s.portEdge e).1.port, response := (s.portEdge e).1.response, portIgnore := (s.portEdge e).1.portIgnore } := by
  unfold State.portEdge
  dsimp only
  split
  · rfl
  · exact (portChanged_frame _ e).trans (by rw [portChanged_frame])

/-- A change of a pin's level, while RESET_N is high, is acted on over the pin's new level. -/
theorem portEdge_changed {s : State} {e : PortEdge} (hr : s.resetN = .high) (hm : s.port.moved e ≠ s.port) :
    s.portEdge e = ({ s with port := s.port.moved e } : State).portChanged e :=
  if_neg (by simp [hm, hr])

/-- A pin driven to the level it has, or driven while RESET_N is low, moves and does no more (R174). -/
theorem portEdge_unchanged {s : State} {e : PortEdge} (h : s.port.moved e = s.port ∨ s.resetN = .low) :
    s.portEdge e = ({ s with port := s.port.moved e }, none) :=
  if_pos h

/-- A pin driven to another level than it has changes. -/
theorem moved_mcsN_ne {p : Port} {level : Level} (h : p.mcsN ≠ level) : p.moved (.mcsN level) ≠ p :=
  fun e => h (congrArg Port.mcsN e).symm

theorem moved_msck_ne {p : Port} {level : Level} (h : p.msck ≠ level) : p.moved (.msck level) ≠ p :=
  fun e => h (congrArg Port.msck e).symm

/-! ### What may come next -/

/-- The turn picked is one of those that may come next (log 2). -/
theorem pickTurn_mem (k : Nat) (l : List Turn) (h : l ≠ []) : pickTurn k l ∈ l := by
  unfold pickTurn
  match l with
  | [] => exact absurd rfl h
  | [t] => simp
  | t :: u :: rest =>
    have hlt : Config.idleChoice k % (rest.length + 2) < (t :: u :: rest).length := by
      simpa using Nat.mod_lt _ (Nat.succ_pos _)
    simp only [List.getD_eq_getElem _ _ hlt]
    exact List.getElem_mem hlt

/-- A RELOAD period is due (R92). -/
theorem boundaryDue_iff (s : State) (src) : s.boundaryDue src = true ↔ ∃ start length, (s.contract src).timer = .running .period start length ∧
    length ≤ (s.timeBase - start).toNat := by
  unfold State.boundaryDue
  cases (s.contract src).timer with
  | stopped => simp
  | running m start length =>
    cases m
    · refine Iff.trans decide_eq_true_iff ⟨fun h => ⟨_, _, rfl, h⟩, ?_⟩
      rintro ⟨_, _, h, hl⟩; cases h; exact hl
    · simp

/-- A ONE_SHOT window is due (R96). -/
theorem windowDue_iff (s : State) (src) : s.windowDue src = true ↔ ∃ start length, (s.contract src).timer = .running .window start length ∧
    length ≤ (s.timeBase - start).toNat := by
  unfold State.windowDue
  cases (s.contract src).timer with
  | stopped => simp
  | running m start length =>
    cases m
    · simp
    · refine Iff.trans decide_eq_true_iff ⟨fun h => ⟨_, _, rfl, h⟩, ?_⟩
      rintro ⟨_, _, h, hl⟩; cases h; exact hl

/-- A head expires (R73). -/
theorem headDue_iff (s : State) (src) : s.headDue src = true ↔ ∃ r rest, s.hold src = r :: rest ∧ (s.contract src).state = .paced ∧
    (s.contract src).settings.waitLimit ≠ 0 ∧ 4 * (s.contract src).settings.waitLimit ≤ (s.timeBase - r.arrival).toNat := by
  unfold State.headDue
  cases h : s.hold src with
  | nil => simp
  | cons r rest => simp [reachedLimit_iff]

/-- An ACTIVE entry times out (R134). -/
theorem responseDue_iff (s : State) (d) : s.responseDue d = true ↔ ∃ r due, s.entry d = .active r ∧ r.due = some due ∧
    (due - r.dispatch).toNat ≤ (s.timeBase - r.dispatch).toNat := by
  unfold State.responseDue
  cases h : s.entry d with
  | free => simp
  | orphaned r => simp
  | active r =>
    cases hd : r.due with
    | none => simp [hd]
    | some due =>
      simp only [hd]
      refine Iff.trans decide_eq_true_iff ⟨fun h => ⟨_, _, rfl, hd, h⟩, ?_⟩
      rintro ⟨_, _, h, h2, hl⟩; cases h; rw [hd] at h2; cases h2; exact hl

/-- A pending transition settles (R101). -/
theorem transitionDue_iff (s : State) (n) : s.transitionDue n = true ↔ ∃ level seen, (s.line n).transition = some (level, seen) ∧
    4 * (s.line n).filter ≤ (s.timeBase - seen).toNat := by
  unfold State.transitionDue
  cases h : (s.line n).transition with
  | none => simp
  | some p =>
    obtain ⟨a, b⟩ := p
    refine Iff.trans decide_eq_true_iff ⟨fun h => ⟨_, _, rfl, h⟩, ?_⟩
    rintro ⟨_, _, h, hl⟩; cases h; exact hl

/-- A class is granted exactly while one is eligible (R115). -/
theorem winner_isSome (s : State) : s.winner.isSome = true ↔ ∃ c, s.eligible c = true := by
  unfold State.winner State.arbiterOrder
  rw [List.find?_isSome]
  split
  · constructor
    · rintro ⟨x, -, h⟩; exact ⟨x, h⟩
    · rintro ⟨c, h⟩
      refine ⟨c, ?_, h⟩
      clear h; generalize s.rotation = r
      revert c r; decide
  · constructor
    · rintro ⟨x, -, h⟩; exact ⟨x, h⟩
    · rintro ⟨c, h⟩; exact ⟨c, by clear h; revert c; decide, h⟩

/-- The events of the part that are due, while RESET_N is high. -/
theorem mem_dueEvents (s : State) (h : s.resetN = .high) (c : Instr) : c ∈ s.dueEvents ↔
    (c = .downstreamUp ∧ s.dnRdyPin = .high ∧ s.dnRdy = .low) ∨ (c = .grant ∧ ∃ k, s.eligible k = true) ∨
    (∃ src, c = .boundary src ∧ s.boundaryDue src = true) ∨ (∃ src, c = .windowEnd src ∧ s.windowDue src = true) ∨
    (∃ src, c = .headExpiry src ∧ s.headDue src = true) ∨ (∃ d, c = .responseTimeout d ∧ s.responseDue d = true) ∨
    ∃ n, c = .transitionSettles n ∧ s.transitionDue n = true := by
  unfold State.dueEvents
  rw [if_neg (by simp [h])]
  simp only [List.mem_append, List.mem_map, List.mem_filter, List.mem_finRange, true_and, ← winner_isSome, or_assoc, State.firstSightDue,
    Bool.and_eq_true, decide_eq_true_eq]
  refine or_congr ?_ (or_congr ?_ (or_congr ?_ (or_congr ?_ (or_congr ?_ (or_congr ?_ ?_)))))
  · split <;> simp_all
  · split <;> simp_all
  all_goals exact exists_congr fun x => by rw [and_comm, eq_comm]

/-- A step takes one command on the state as it stands but for the port and what waits to come from outside, or takes none there, or a tick
passes there. -/
theorem step_cases {s t : State} (h : step s = .next t) :
    ∃ u : State,
      u = { s with pending := u.pending, wire := u.wire, choices := u.choices,
                   port := u.port, response := u.response, portIgnore := u.portIgnore } ∧
      ((∃ c, exec c u = .next t) ∨ t = u.tick ∨ t = u) := by
  unfold step at h
  split at h
  · exact ⟨_, rfl, .inl ⟨_, h⟩⟩
  · unfold State.idle State.takeTurn at h
    split at h
    · rename_i e rest _
      unfold State.drive at h
      have hf := portEdge_frame { s with choices := s.choices + 1, wire := rest } e
      split at h
      · rename_i u c hu
        rw [hu] at hf
        refine ⟨u, ?_, .inl ⟨c, h⟩⟩
        cases u; simp_all
      · rename_i u hu
        rw [hu] at hf
        refine ⟨u, ?_, .inr (.inr (Host.Outcome.next.inj h).symm)⟩
        cases u; simp_all
    · exact ⟨_, rfl, .inl ⟨_, h⟩⟩
    · exact ⟨_, rfl, .inr (.inl (Host.Outcome.next.inj h).symm)⟩

/-- A bit clocked in before the eighth waits for the rest of its byte (R168). -/
theorem clockIn_of_lt (p : Port) (b : Bool) (h : p.bits.length < 7) : p.clockIn b = { p with bits := p.bits ++ [b] } :=
  if_neg (by omega)

/-- The eighth bit completes its byte (R168). -/
theorem clockIn_eighth (p : Port) (b : Bool) (h : p.bits.length = 7) :
    p.clockIn b = { p with bits := [], bytes := p.bytes ++ [byteOfBits (p.bits ++ [b])] } :=
  if_pos h

end Sys2Proof.Machine
end

