-- ==== Sys2Proof/Tests/Slice0.lean ====
section
/-! SUPPORT. The model's own tests: commands that are ill-formed and refused as such, wire words written out from the spec's layouts, one or
two steps for each command, and for each statement of Certificates/Slice0/Obligations.lean that has hypotheses the states and operands that
meet them, at the boundaries of their ranges. -/

namespace Sys2Proof.Tests

open Sys2Proof.Machine

set_option Elab.async false

/-! ### Ill-formed commands (WellFormed.lean) -/

theorem test_ill_payload_short : (Instr.identify ⟨0, 2, [1#8]⟩).WellFormed = false := by decide

theorem test_ill_payload_for_long_n : (Instr.status ⟨0, 49, [1#8]⟩).WellFormed = false := by decide

theorem test_well_no_payload_for_long_n : (Instr.status ⟨0, 49, []⟩).WellFormed = true := by decide

theorem test_ill_source_code : (Instr.bar ⟨0, 1, [2#8]⟩).WellFormed = false := by decide

theorem test_ill_clear_flag : (Instr.countersRead ⟨0, 2, [0#8, 1#8]⟩).WellFormed = false := by decide

theorem test_ill_no_clear_flag : (Instr.countersReadClear ⟨0, 2, [0#8, 0#8]⟩).WellFormed = false := by decide

theorem test_ill_known_opcode : (Instr.unknownOpcode 0x40#8 ⟨0, 0, []⟩).WellFormed = false := by decide

theorem test_ill_cut_of_nothing : (Instr.commandCut []).WellFormed = false := by decide

theorem test_ill_cut_after_the_take : (Instr.commandCut [0x01#8, 0#8, 0#8]).WellFormed = false := by decide

theorem test_ill_response_too_long : (Instr.responseCut 54).WellFormed = false := by decide

/-! ### Wire words -/

/-- R180: kind in bits 63..62, source in 61..57, tag in 56..51, beats − 1 in 50..47, address in 46..7. -/
def header (kind source tag beats address : Nat) : BitVec 64 :=
  BitVec.ofNat 64 (kind * 2 ^ 62 + source * 2 ^ 57 + tag * 2 ^ 51 + (beats - 1) * 2 ^ 47 + address * 2 ^ 7)

theorem test_request_layout :
    Request.ofMessage 0x0629800000080000#64 [] = ⟨some .read, 3, 5, 0x1000#40, 4, []⟩ ∧
      header 0 3 5 4 0x1000 = 0x0629800000080000#64 := by decide +kernel

theorem test_unknown_kind : (Request.ofMessage (header 2 3 5 4 0x1000) []).kind = none := by decide +kernel

/-- R180: the part sends the same layout downstream. -/
theorem test_request_sent : (DRequest.header ⟨.write, 31, 63, 0x1000#40, 16, []⟩) = header 1 31 63 16 0x1000 := by
  decide +kernel

/-- R181: status in bits 31..29, tag in 20..15; code 2 is read as an error. -/
def completionHeader (status tag : Nat) : BitVec 32 := BitVec.ofNat 32 (status * 2 ^ 29 + tag * 2 ^ 15)

theorem test_completion_layout :
    DCompletion.ofMessage (completionHeader 0 7) [] = ⟨7, true, []⟩ ∧
      DCompletion.ofMessage (completionHeader 2 63) [] = ⟨63, false, []⟩ := by decide +kernel

/-- R181: REFUSED with BLOCKED to source 3, tag 20. -/
theorem test_completion_sent :
    Completion.header ⟨3, 20, .refused .blocked, []⟩ = BitVec.ofNat 32 (2 * 2 ^ 29 + 2 * 2 ^ 26 + 3 * 2 ^ 21 + 20 * 2 ^ 15) := by
  decide +kernel

/-- R182, R183: opcode, index, N, payload; what follows the take is ignored. -/
theorem test_frame_bar : decodeFrame [0x12#8, 3#8, 1#8, 3#8, 0xFF#8] = some (.bar ⟨3, 1, [3#8]⟩) := by decide

theorem test_frame_clear :
    decodeFrame [0x40#8, 1#8, 2#8, 1#8, 1#8] = some (.countersReadClear ⟨1, 2, [1#8, 1#8]⟩) := by decide

theorem test_frame_cut : decodeFrame [0x11#8, 3#8, 16#8, 0#8] = some (.commandCut [0x11#8, 3#8, 16#8, 0#8]) := by decide

/-! ### Small states -/

/-- The part with UP_RDY and DN_RDY high, eight credits in class 0, at time 100. -/
def up : State :=
  ({ State.reset with upRdy := .high, dnRdyPin := .high, dnRdy := .high, timeBase := 100 }).setClass 0
    { ClassRec.powerOn with credits := 8 }

/-- A READ of source 3, tag 5, 4 beats, charge 4, which arrived at time 90. -/
def stored (slot : Fin 96) : StoredReq := ⟨slot, .read, 3, 5, 0x1000#40, 4, [], 4, 90⟩

/-- Settings of budget 64, carry 16, base T0, 40 ticks to a period, 1 µs wait limit. -/
def small : Settings := { Settings.powerOn with budget := 64, carry := 16, tickBase := .t0, periodCount := 40, waitLimit := 1 }

/-- Source 3 under a contract, with a hold list. -/
def with3 (c : Contract) (held : List StoredReq) : State := (up.setContract 3 c).setHold 3 held

/-- PACED with balance 3 and a period of 40 ticks from time 60, due now. -/
def paced : Contract := ⟨small, .paced, 3, 0, none, .running .period 60 40⟩

/-- PACED in ONE_SHOT mode, with its window due now. -/
def window : Contract := ⟨{ small with mode := .oneShot }, .paced, 3, 0, none, .running .window 60 40⟩

/-- PACED in TRIGGERED mode on line 2, one edge short of its two edges per refill. -/
def triggered : Contract := ⟨{ small with mode := .triggered, triggerLine := 2, edgesPerRefill := 2 }, .paced, 3, 1, none, .stopped⟩

/-- An entry of source 3, tag 5, class 0: a READ of 4 beats sent at time 95, due at time 99. -/
def sent : Outstanding := ⟨3, 5, 0, .read, 4, 90, 95, some 99⟩

/-- A frame with a payload of its own length. -/
def frame (index : Nat) (payload : List Byte) : Frame := ⟨BitVec.ofNat 8 index, BitVec.ofNat 8 payload.length, payload⟩

/-- Whether a command completes with a state that meets `p`. -/
def after (c : Instr) (s : State) (p : State → Bool) : Bool :=
  match exec c s with
  | .next t => p t
  | .fault _ => false
  | .refused _ => false

/-- Whether a command is answered with a status and data. -/
def answers (c : Instr) (s : State) (status : Status) (data : List Byte) : Bool :=
  after c s fun t => t.response.map (fun r => (r.status, r.data)) = some (status, data)

/-- The kinds of the records in the event queue, by their codes. -/
def kinds (s : State) : List Nat := s.evq.records.map fun r => r.event.kindCode

/-! ### One step of each command -/

/-- R174: an MCS_N-low period in progress at the rise is to be ignored. -/
theorem test_powerOnReset : after (.powerOnReset .low) { up with tickets := 7, port := { Port.idle with mcsN := .low, bits := [true] } } (fun t =>
    t.tickets = 0 && t.portIgnore && t.timeBase = 0 && t.port = { Port.idle with mcsN := .low }) = true := by decide +kernel

theorem test_resetNFall : after .resetNFall (with3 paced [stored 0]) (fun t => t.hold 3 = [] && t.resetN = .low) = true := by
  decide +kernel

/-- R18: one slot discarded and one entry orphaned are the detail. -/
theorem test_upstreamReset : after .upstreamReset ((with3 paced [stored 0]).setEntry 9 (.active sent)) (fun t =>
    t.evq.records.map (fun r => r.event.detail) = [0x00010001#32] && t.entry 9 = .orphaned { sent with due := none }) = true := by
  decide +kernel

theorem test_upRdyRise : after .upRdyRise State.reset (fun t => t.upRdy = .high && t.evq.records = []) = true := by decide +kernel

/-- R136: one ACTIVE entry is answered ABORTED and freed, with the orphan. -/
theorem test_downstreamDown : after .downstreamDown ((up.setEntry 9 (.active sent)).setEntry 2 (.orphaned sent)) (fun t =>
    t.returnQ = [⟨3, 5, .aborted, []⟩] && t.entry 9 = .free && t.entry 2 = .free && (t.cls 0).credits = 0
      && t.evq.records.map (fun r => r.event.detail) = [0x00010001#32]) = true := by decide +kernel

/-- R112: four classes of 8 credits. -/
theorem test_downstreamUp : after .downstreamUp State.reset (fun t =>
    (t.cls 2).credits = 8 && t.evq.records.map (fun r => r.event.detail) = [32#32]) = true := by decide +kernel

/-- R65: uncharged, in slot 0, FREE_BEATS raised by 4. -/
theorem test_take_unpaced : after (.take (header 0 3 5 4 0x1000) []) up (fun t =>
    (t.queue 0).map StoredReq.charge = [4] && (t.srcCount 3).freeBeats = 4 && (t.srcCount 3).arrivals = 1 && t.tickets = 1 && t.live 3 5) =
    true := by decide +kernel

/-- R67: charge 4 over balance 3 is held. -/
theorem test_take_held : after (.take (header 0 3 5 4 0x1000) []) (with3 paced []) (fun t =>
    (t.hold 3).length = 1 && (t.srcCount 3).heldCount = 1 && (t.srcCount 3).maxHoldDepth = 1 && (t.contract 3).balance = 3) = true := by
  decide +kernel

theorem test_handOver : after .handOver { up with returnQ := [⟨3, 5, .ok, []⟩], tickets := 1 } (fun t =>
    t.returnQ = [] && t.tickets = 0 && t.ulCpl = some ⟨3, 5, .ok, []⟩) = true := by decide +kernel

/-- R118: entry 0, one credit less, the pointer at class 1. -/
theorem test_grant : after .grant (up.setQueue 0 [stored 4]) (fun t =>
    t.dlReq = some ⟨.read, 3, 0, 0x1000#40, 4, []⟩ && (t.cls 0).credits = 7 && t.rotation = 1 && t.queue 0 = []
      && t.entry 0 = .active ⟨3, 5, 0, .read, 4, 90, 100, none⟩) = true := by decide +kernel

/-- R129, R148: an OK READ of the right length; latency 5 falls in BIN1. -/
theorem test_downstreamCompletion : after (.downstreamCompletion (completionHeader 0 9) (List.replicate 4 1)) (up.setEntry 9 (.active sent))
    (fun t => t.returnQ = [⟨3, 5, .ok, List.replicate 4 1⟩] && (t.cls 0).credits = 9 && (t.clsCount 0).bins.toList = [0, 1, 0, 0, 0, 0, 0, 0]
      && (t.clsCount 0).minLatency = 5 && (t.srcCount 3).maxResidence = 10) = true := by decide +kernel

/-- R129: data of a wrong length is MEM_ERROR. -/
theorem test_downstreamCompletion_wrong_length : after (.downstreamCompletion (completionHeader 0 9) []) (up.setEntry 9 (.active sent)) (fun t =>
    t.returnQ = [⟨3, 5, .memError, []⟩] && (t.clsCount 0).memErrors = 1) = true := by decide +kernel

theorem test_responseTimeout : after (.responseTimeout 9) (up.setEntry 9 (.active sent)) (fun t =>
    t.returnQ = [⟨3, 5, .timeout, []⟩] && t.entry 9 = .orphaned { sent with due := none } && (t.clsCount 0).timeouts = 1
      && (t.cls 0).credits = 8) = true := by decide +kernel

/-- R93, R94: 3 + 64 within the ceiling 80, the next period from 100; the drain then pays 4. -/
theorem test_boundary : after (.boundary 3) (with3 paced [stored 0]) (fun t =>
    (t.contract 3).balance = 63 && (t.contract 3).timer = .running .period 100 40 && t.hold 3 = [] && (t.queue 0).length = 1) = true := by
  decide +kernel

/-- R74: age 10 is over 4 ticks; the head is refused. -/
theorem test_headExpiry_refuse : after (.headExpiry 3) (with3 paced [stored 0]) (fun t =>
    t.returnQ = [⟨3, 5, .refused .waitExpired, []⟩] && kinds t = [1, 2] && (t.srcCount 3).refusedCount = 1) = true := by decide +kernel

/-- R75: the head is forced into dispatch without charge. -/
theorem test_headExpiry_force : after (.headExpiry 3) (with3 { paced with settings := { small with waitAction := .force } } [stored 0]) (fun t =>
    (t.queue 0).length = 1 && (t.contract 3).balance = 3 && (t.srcCount 3).forcedBeats = 4 && kinds t = [1]) = true := by decide +kernel

/-- R96: REFUSAL and then WINDOW_CLOSED with a count of 1. -/
theorem test_windowEnd : after (.windowEnd 3) (with3 window [stored 0]) (fun t =>
    (t.contract 3).state = .spent && (t.contract 3).balance = 0 && kinds t = [2, 10] && t.returnQ = [⟨3, 5, .refused .spent, []⟩]) = true := by
  decide +kernel

theorem test_triggerPinChange : after (.triggerPinChange 2 .high) (with3 triggered []) (fun t =>
    (t.line 2).settled = .high && (t.contract 3).balance = 67 && (t.contract 3).edgeCount = 0) = true := by decide +kernel

theorem test_transitionSettles : after (.transitionSettles 2) ((with3 triggered []).setLine 2 ⟨.falling, 1, .low, some (.high, 96), .high⟩) (fun t =>
    (t.line 2).settled = .high && (t.line 2).transition = none && (t.contract 3).edgeCount = 1) = true := by decide +kernel

theorem test_commandCut : after (.commandCut [0x11#8, 3#8]) up (fun t => t.frameFault = ⟨.commandCut, 0x11#8, 2⟩) = true := by decide +kernel

theorem test_responseCut : after (.responseCut 1) (up.answered 0x03#8 .ok [0, 0, 0, 1]) (fun t => t.frameFault = ⟨.responseCut, 0x03#8, 1⟩) =
    true := by decide +kernel

theorem test_unknownOpcode : answers (.unknownOpcode 0#8 (frame 0 [])) up .badOpcode [] = true := by decide +kernel

theorem test_identify : answers (.identify (frame 9 [])) up .ok
    [0x0C#8, 0x5E#8, 0x24#8, 0x10#8, 1#8, 32#8, 4#8, 16#8, 4#8, 96#8, 64#8, 32#8, 160#8, 48#8] = true := by decide +kernel

theorem test_status : answers (.status (frame 0 [])) up .ok
    [3#8, 0#8, 0#8, 0#8, 0#8, 0#8, 8#8, 0#8, 0#8, 0#8, 0#8, 0#8, 0#8, 0#8, 0#8, 0#8, 0#8, 0#8] = true := by decide +kernel

theorem test_timeRead : answers (.timeRead (frame 0 [])) up .ok [0#8, 0#8, 0#8, 100#8] = true := by decide +kernel

/-- R184: the power-on contract. -/
theorem test_contractRead : answers (.contractRead (frame 7 [])) up .ok
    [0#8, 0#8, 1#8, 0#8, 0#8, 0#8, 1#8, 3#8, 0xE8#8, 0#8, 0#8, 1#8, 8#8, 0#8, 0#8, 0#8, 0#8, 0#8, 0#8, 0#8, 0#8] = true := by decide +kernel

/-- A CONTRACT_WRITE payload: TRIGGERED, class 1, budget 64, carry 16, T0, 40 ticks, line 2, 2 edges, hold limit 4, 5 µs, FORCE. -/
def payload : List Byte := [2#8, 1#8, 0#8, 64#8, 0#8, 16#8, 0#8, 0#8, 40#8, 2#8, 0#8, 2#8, 4#8, 0#8, 5#8, 1#8]

theorem test_contractWrite_applied : after (.contractWrite (frame 3 payload)) up (fun t =>
    (t.contract 3).settings = ⟨.triggered, 1, 64, 16, .t0, 40, 2, 2, 4, 5, .force⟩ && t.response.map Response.status = some .ok) = true := by
  decide +kernel

/-- R48: a change of mode while the source is PACED. -/
theorem test_contractWrite_state : answers (.contractWrite (frame 3 payload)) (with3 paced []) .state [] = true := by decide +kernel

theorem test_enable : after (.enable (frame 3 [1#8])) up (fun t =>
    t.contract 3 = ⟨Settings.powerOn, .paced, 256, 0, none, .running .period 100 4000⟩) = true := by decide +kernel

theorem test_disable : after (.disable (frame 3 [2#8])) (with3 paced [stored 0]) (fun t =>
    (t.contract 3).state = .unpaced && (t.queue 0).length = 1 && (t.srcCount 3).freeBeats = 4 && (t.contract 3).balance = 3
      && (t.contract 3).timer = .stopped) = true := by decide +kernel

/-- R43: the held request and then the queued one are refused. -/
theorem test_bar : after (.bar (frame 3 [3#8])) ((with3 paced [stored 0]).setQueue 0 [{ stored 1 with tag := 6 }]) (fun t =>
    t.returnQ = [⟨3, 5, .refused .barred, []⟩, ⟨3, 6, .refused .barred, []⟩] && t.queue 0 = [] && t.hold 3 = []) = true := by decide +kernel

theorem test_unbar : after (.unbar (frame 3 [4#8])) (with3 { paced with state := .barred } []) (fun t =>
    t.contract 3 = { paced with state := .unpaced }) = true := by decide +kernel

theorem test_arm : after (.arm (frame 3 [5#8])) (with3 window [stored 0]) (fun t =>
    (t.contract 3).timer = .running .window 100 40 && (t.contract 3).balance = 60 && (t.queue 0).length = 1) = true := by decide +kernel

/-- R86: tag 5, charge 4, age 10. -/
theorem test_holdRead : answers (.holdRead (frame 3 [0#8])) (with3 paced [stored 0]) .ok [5#8, 4#8, 0#8, 0#8, 0#8, 10#8] = true := by
  decide +kernel

theorem test_holdRead_past_the_end : answers (.holdRead (frame 3 [1#8])) (with3 paced [stored 0]) .badIndex [] = true := by decide +kernel

/-- A REGION_WRITE payload: valid, pages 1 to 2, BLOCKED, weight 4, source 3. -/
def regionPayload : List Byte := [1#8, 0#8, 0#8, 0#8, 1#8, 0#8, 0#8, 0#8, 2#8, 2#8, 4#8, 0#8, 0#8, 0#8, 8#8]

theorem test_regionWrite : after (.regionWrite (frame 5 regionPayload)) up (fun t =>
    t.region 5 = ⟨true, 1, 2, .blocked, .w4, 8#32⟩ && t.decodeRegion 0x1000#40 3 4 = none && t.decodeRegion 0x3000#40 3 4 = some 4) = true := by
  decide +kernel

theorem test_regionRead : answers (.regionRead (frame 15 [])) up .ok
    [0#8, 0#8, 0#8, 0#8, 0#8, 0#8, 0#8, 0#8, 0#8, 0#8, 1#8, 0xFF#8, 0xFF#8, 0xFF#8, 0xFF#8] = true := by decide +kernel

theorem test_classRead : answers (.classRead (frame 0 [])) up .ok
    [8#8, 0#8, 0#8, 8#8, 0#8, 0#8, 0#8, 0#8, 4#8, 0#8, 16#8, 0#8, 64#8, 1#8, 0#8, 4#8, 0#8, 16#8, 0#8, 64#8, 0#8] = true := by
  decide +kernel

/-- A CLASS_WRITE payload: credit 5, limit 9 µs, edges 1 to 7. -/
def classPayload : List Byte := [5#8, 0#8, 9#8, 0#8, 1#8, 0#8, 2#8, 0#8, 3#8, 0#8, 4#8, 0#8, 5#8, 0#8, 6#8, 0#8, 7#8]

theorem test_classWrite_staged : after (.classWrite (frame 0 classPayload)) up (fun t =>
    t.cls 0 = ⟨8, some 5, 8, 9, #v[1, 2, 3, 4, 5, 6, 7]⟩ && t.response.map Response.status = some .staged) = true := by decide +kernel

theorem test_lineWrite : after (.lineWrite (frame 2 [2#8, 15#8])) up (fun t => t.line 2 = ⟨.both, 15, .low, none, .low⟩) = true := by
  decide +kernel

theorem test_lineRead : answers (.lineRead (frame 2 [])) (up.setLine 2 ⟨.both, 15, .high, some (.low, 9), .low⟩) .ok [2#8, 15#8, 1#8, 1#8] =
    true := by decide +kernel

theorem test_globalWrite : after (.globalWrite (frame 0 [1#8, 2#8, 4#8, 0x1F#8, 0xFF#8])) up (fun t =>
    t.globals = ⟨.strict, .blocked, .w4, 0x1FFF#13⟩) = true := by decide +kernel

theorem test_globalRead : answers (.globalRead (frame 0 [])) up .ok [0#8, 0#8, 1#8, 0x1F#8, 0xFE#8] = true := by decide +kernel

theorem test_countersRead : answers (.countersRead (frame 0 [2#8, 0#8])) { up with globCounts := ⟨1, 2, 3⟩ } .ok
    [0#8, 0#8, 0#8, 1#8, 0#8, 0#8, 0#8, 2#8, 0#8, 0#8, 0#8, 3#8] = true := by decide +kernel

theorem test_countersReadClear : after (.countersReadClear (frame 0 [2#8, 1#8])) { up with globCounts := ⟨1, 2, 3⟩ } (fun t =>
    t.globCounts = ⟨0, 0, 0⟩ && t.response.map Response.data = some [0#8, 0#8, 0#8, 1#8, 0#8, 0#8, 0#8, 2#8, 0#8, 0#8, 0#8, 3#8]) = true := by
  decide +kernel

/-- A record of REFUSAL with sequence 258: source 3, tag 5, reason 3 (BARRED). -/
def refusalRecord : EventRecord := ⟨258, 100, .refusal 3 5 .barred⟩

theorem test_eventRead : answers (.eventRead (frame 0 [])) { up with evq := ⟨[refusalRecord], 259, 0⟩ } .ok
    [1#8, 2#8, 2#8, 0#8, 0#8, 0#8, 100#8, 1#8, 3#8, 0#8, 0#8, 0#8, 3#8, 5#8, 1#8] = true := by decide +kernel

theorem test_eventRelease : after (.eventRelease (frame 0 [1#8, 2#8])) { up with evq := ⟨[refusalRecord], 259, 7⟩ } (fun t =>
    t.evq = ⟨[⟨259, 100, .overflow 7⟩], 260, 0⟩) = true := by decide +kernel

theorem test_eventRelease_other_sequence : answers (.eventRelease (frame 0 [0#8, 2#8])) { up with evq := ⟨[refusalRecord], 259, 7⟩ } .state [] =
    true := by decide +kernel

theorem test_trafficReset : after (.trafficReset (frame 0 [])) ((with3 paced [stored 0]).setEntry 9 (.active { sent with tag := 6 })) (fun t =>
    t.returnQ = [⟨3, 5, .aborted, []⟩, ⟨3, 6, .aborted, []⟩] && t.response = some ⟨0x50#8, .ok, [1#8, 1#8]⟩
      && t.contract 3 = { paced with balance := 64, timer := .running .period 100 40 }) = true := by decide +kernel

/-! ### The pins of the management port -/

/-- The pin changes that clock one bit in: MDI, a rise of MSCK, a fall of MSCK. -/
def clockBit (b : Bool) : List PortEdge := [.mdi (if b then .high else .low), .msck .high, .msck .low]

/-- The pin changes that clock bytes in, most significant bit first. -/
def clockBytes (bytes : List Byte) : List PortEdge := bytes.flatMap fun v => (List.range 8).flatMap fun i => clockBit (v.getMsbD i)

/-- Pin changes driven one after the other. -/
def drives (s : State) : List PortEdge → State
  | [] => s
  | e :: rest =>
    match s.drive e with
    | .next t => drives t rest
    | .fault _ => s
    | .refused _ => s

/-- The levels at MDO, sampled before each of `n` rises of MSCK. -/
def sampled : Nat → State → List (Option Level)
  | 0, _ => []
  | n + 1, s => s.mdo :: sampled n (drives s [.msck .high, .msck .low])

/-- The levels that carry bytes. -/
def levels (bytes : List Byte) : List (Option Level) :=
  bytes.flatMap fun v => (List.range 8).map fun i => some (if v.getMsbD i then .high else .low)

/-- R168: the third byte of TIME_READ completes it, and the take is there; a bit less is no take. -/
theorem test_port_take :
    (drives up (.mcsN .low :: clockBytes [0x03#8, 0#8, 0#8])).response = some ⟨0x03#8, .ok, [0#8, 0#8, 0#8, 100#8]⟩ ∧
      (drives up (.mcsN .low :: (clockBytes [0x03#8, 0#8, 0#8]).take 69)).response = none := by decide +kernel

/-- R169: 0x00 while command bytes come in; then status 0x00, M = 4, the four bytes, and 0x00 after them. -/
theorem test_port_response :
    sampled 8 (drives (up.answered 0x01#8 .badLength []) [.mcsN .low]) = levels [0#8] ∧
      sampled 56 (drives up (.mcsN .low :: clockBytes [0x03#8, 0#8, 0#8])) = levels [0#8, 4#8, 0#8, 0#8, 0#8, 100#8, 0#8] := by
  decide +kernel

/-- R170: two bytes and five bits, and then a rise of MCS_N; MDO is at high impedance after it. -/
theorem test_port_command_cut :
    let t := drives up ((.mcsN .low :: clockBytes [0x11#8, 3#8] ++ (clockBytes [0xFF#8]).take 15) ++ [.mcsN .high])
    t.frameFault = ⟨.commandCut, 0x11#8, 2⟩ ∧ t.port = { Port.idle with mdi := .high } ∧ t.mdo = none := by decide +kernel

/-- R170: a rise of MCS_N before any byte has completed is no fault. -/
theorem test_port_no_transaction :
    (drives up ((.mcsN .low :: (clockBytes [0xFF#8]).take 15) ++ [.mcsN .high])).frameFault = ⟨.none, 0, 0⟩ := by decide +kernel

/-- R171: nine bits of the response have been clocked out, one byte; and after all six bytes the rise of MCS_N is no fault. -/
theorem test_port_response_cut :
    let t := drives up (.mcsN .low :: clockBytes [0x03#8, 0#8, 0#8])
    (drives t ((clockBytes [0#8, 0#8]).take 27 ++ [.mcsN .high])).frameFault = ⟨.responseCut, 0x03#8, 1⟩ ∧
      (drives t (clockBytes (List.replicate 6 0#8) ++ [.mcsN .high])).frameFault = ⟨.none, 0, 0⟩ := by decide +kernel

/-- R168: MSCK is ignored while MCS_N is high. -/
theorem test_port_not_selected : (drives up (clockBytes [0x03#8, 0#8, 0#8])).response = none := by decide +kernel

/-- R174: the period in progress at the rise of RESET_N is ignored, whether or not a byte completes in it, and the next one is taken. -/
theorem test_port_ignored_period :
    let s := drives { up with resetN := .low } [.mcsN .low]
    let period := clockBytes [0x03#8, 0#8, 0#8]
    after (.powerOnReset .low) s (fun t =>
      (drives t period).response = none && (drives t [.mcsN .high]).portIgnore = false
        && (drives t (.mcsN .high :: .mcsN .low :: period)).response.isSome
        && (drives t (period ++ .mcsN .high :: .mcsN .low :: period)).response.isSome) = true := by decide +kernel

/-! ### The step -/

def stepsTo (s : State) (p : State → Bool) : Bool :=
  match step s with
  | .next t => p t
  | .fault _ => false
  | .refused _ => false

/-- The front command first, and the rest still waiting. -/
theorem test_step_runs_front : stepsTo { State.reset with pending := [.upRdyRise, .handOver] } (fun t =>
    t.upRdy = .high && t.pending = [.handOver]) = true := by decide +kernel

theorem test_step_idle_tick : stepsTo State.reset (fun t => t.timeBase = 1) = true := by decide +kernel

/-- With a pin change still to be driven it may come next, and so may a due event or, with none due, a tick. -/
theorem test_step_turns :
    { State.reset with wire := [.mcsN .low] }.turns = [.edge (.mcsN .low) [], .tick] ∧
      { State.reset with wire := [.mcsN .low, .mcsN .high], dnRdyPin := .high }.turns =
        [.edge (.mcsN .low) [.mcsN .high], .event .downstreamUp] := by decide +kernel

/-- Only one event is due, so no free value is read to pick it. -/
theorem test_step_takes_due_event : stepsTo { State.reset with dnRdyPin := .high } (fun t => t.dnRdy = .high && t.timeBase = 0) = true := by
  decide +kernel

/-! ### Witnesses: states and operands that meet the hypotheses of the statements, clause by clause -/

/-- A lawful busy part: source 3 PACED with a held request, ACTIVE entry 9, a completion on the Return Queue, one measured completion, one event
record, a pending transition on line 1, a byte and two bits of a command on the management port, and a command that waits. -/
def busy : State :=
  let s := ((((with3 { paced with timer := .running .period 90 40 } [stored 0]).setEntry 9 (.active { sent with tag := 6 })).setLive 3 5
    true).setLive 3 6 true).setLive 3 7 true
  { s with
    classes := #v[⟨8, none, 7, 0, #v[4, 16, 64, 256, 1024, 4096, 16384]⟩, ⟨8, none, 8, 0, #v[1, 2, 3, 4, 5, 6, 7]⟩,
      ⟨8, some 3, 8, 0, #v[1, 2, 3, 4, 5, 6, 7]⟩, ⟨32, none, 32, 0, #v[1, 2, 3, 4, 5, 6, 65535]⟩]
    tickets := 3
    returnQ := [⟨3, 7, .ok, []⟩]
    clsCounts := s.clsCounts.set 0 ⟨1, #v[0, 1, 0, 0, 0, 0, 0, 0], 5, 5, 0, 0, 0⟩
    evq := ⟨[⟨65535, 90, .downstreamUp 32⟩], 0, 0⟩
    lines := s.lines.set 1 ⟨.both, 1, .low, some (.high, 98), .high⟩
    port := { Port.idle with mcsN := .low, mdi := .high, bits := [true, false], bytes := [0x12#8] }
    pending := [.handOver] }

/-- No command waits: with an event due, with none, with a pin change still to be driven, with RESET_N low. Each kind of event is due in one of the
states below. -/
theorem witness_IdleStepTakesADueEventOrTicks :
    ((with3 paced []).pending = [] ∧ (with3 paced []).wire = [] ∧ (with3 paced []).dueEvents ≠ []) ∧
      (State.reset.pending = [] ∧ State.reset.wire = [] ∧ State.reset.dueEvents = []) ∧
      ({ State.reset with wire := [.mcsN .low] } : State).pending = [] ∧ ({ up with resetN := .low } : State).resetN = .low ∧
      (up.resetN = .high ∧ Instr.downstreamUp ∈ ({ State.reset with dnRdyPin := .high } : State).dueEvents ∧
        Instr.grant ∈ (up.setQueue 0 [stored 0]).dueEvents ∧ Instr.boundary 3 ∈ (with3 paced []).dueEvents ∧
        Instr.windowEnd 3 ∈ (with3 window []).dueEvents ∧ Instr.headExpiry 3 ∈ (with3 paced [stored 0]).dueEvents ∧
        Instr.responseTimeout 9 ∈ (up.setEntry 9 (.active sent)).dueEvents ∧
        Instr.transitionSettles 2 ∈ (up.setLine 2 ⟨.falling, 1, .low, some (.high, 96), .high⟩).dueEvents) := by decide +kernel

theorem witness_ResetNLowStopsThePart :
    (({ up with resetN := .low } : State).resetN = .low ∧
      Instr.handOver ∉ [Instr.powerOnReset .low, .powerOnReset .high, .upstreamReset, .upRdyRise, .downstreamDown, .downstreamUp] ∧
      ∀ n level, Instr.handOver ≠ .triggerPinChange n level) ∧ busy.resetN = .high :=
  ⟨⟨by decide +kernel, by decide +kernel, nofun⟩, by decide +kernel⟩

theorem witness_UpstreamResetDiscards : busy.resetN = .high ∧ busy.upRdy = .high := by decide +kernel

/-- Each of the three reasons for which a presented request stays untaken, the others absent. -/
theorem witness_UPortIsOpenWithUpRdy :
    (({ up with resetN := .low } : State).resetN = .low ∧ State.reset.upRdy = .low ∧ 160 ≤ ({ up with tickets := 160 } : State).tickets) ∧
      ({ up with tickets := 159 } : State).canTake = true := by decide +kernel

theorem witness_DownstreamDownAbortsAndFrees : busy.resetN = .high ∧ busy.dnRdy = .high := by decide +kernel

theorem witness_DownstreamUpLoadsCredits : State.reset.resetN = .high ∧ State.reset.dnRdy = .low := by decide +kernel

/-- A tag of 16, and with tag 5 each rule of form broken by the least amount: an unknown kind, an address off by 16, a crossing of a 4096-byte
boundary by one beat, a READ with a beat of data, a WRITE with a beat missing. -/
theorem witness_TakeRefusesMalformed :
    (up.resetN = .high ∧ up.upRdy = .high ∧ up.tickets < 160) ∧ (Request.ofMessage (header 0 3 16 4 0x1000) []).tag.val = 16 ∧
      ∀ m ∈ [(header 2 3 5 4 0x1000, ([] : List Beat)), (header 0 3 5 4 0x1010, []), (header 0 3 5 2 0x1FE0, []),
        (header 0 3 5 4 0x1000, [0]), (header 1 3 5 4 0x1000, [0, 0, 0])],
        let q := Request.ofMessage m.1 m.2
        q.tag = wireTag 5 ∧ up.live q.source 5 = false ∧
          (q.kind = none ∨ q.address.toNat % 32 ≠ 0 ∨ 4096 < q.address.toNat % 4096 + 32 * q.beats ∨
            (q.kind = some .read ∧ q.data ≠ []) ∨ (q.kind = some .write ∧ q.data.length ≠ q.beats)) := by decide +kernel

theorem witness_TakeDropsDuplicate :
    let q := Request.ofMessage (header 0 3 7 4 0x1000) []
    busy.resetN = .high ∧ busy.upRdy = .high ∧ busy.tickets < 160 ∧ q.tag = wireTag 7 ∧ busy.live q.source 7 = true := by decide +kernel

/-- A READ of source 3, tag 5, 4 beats, as the takes below meet it. -/
def arriving : Request := Request.ofMessage (header 0 3 5 4 0x1000) []

/-- Every slot filled by requests of source 3. -/
def full : State := up.setQueue 0 ((List.finRange 96).map stored)

theorem witness_full : ∀ i, full.slotState i ≠ .free := by decide +kernel

/-- One state for each of the four reasons. -/
theorem witness_TakeRefusesAtArrival :
    (let s := { up with globals := { GlobalSettings.powerOn with unmatchedAction := .blocked } }
     s.accepts arriving .read 5 ∧ s.decodeRegion arriving.address arriving.source arriving.beats = none) ∧
    (let s := with3 { paced with state := .barred, timer := .stopped } []
     s.accepts arriving .read 5 ∧ s.decodeRegion arriving.address arriving.source arriving.beats ≠ none ∧
        (s.contract arriving.source).state = .barred) ∧
    (let s := with3 { window with state := .spent, timer := .stopped } []
     s.accepts arriving .read 5 ∧ s.decodeRegion arriving.address arriving.source arriving.beats ≠ none ∧
        (s.contract arriving.source).state = .spent) ∧
    (full.accepts arriving .read 5 ∧ full.decodeRegion arriving.address arriving.source arriving.beats ≠ none ∧
      (full.contract arriving.source).state ≠ .barred ∧ (full.contract arriving.source).state ≠ .spent) := by decide +kernel

/-- UNPACED with slot 0 filled; PACED with a balance equal to the charge; PACED with balance 0 and a charge of 0. -/
theorem witness_TakeQueuesAtOnce :
    (let s := up.setQueue 0 [stored 0]
     s.accepts arriving .read 5 ∧ s.decodeRegion arriving.address arriving.source arriving.beats = some 4 ∧ s.slotState 1 = .free ∧
        (∀ i < (1 : Fin 96), s.slotState i ≠ .free) ∧ (s.contract arriving.source).state = .unpaced) ∧
    (let s := with3 { paced with balance := 4 } []
     s.accepts arriving .read 5 ∧ s.decodeRegion arriving.address arriving.source arriving.beats = some 4 ∧ s.slotState 0 = .free ∧
        (∀ i < (0 : Fin 96), s.slotState i ≠ .free) ∧ (s.contract arriving.source).state = .paced ∧ s.hold arriving.source = [] ∧
        4 ≤ (s.contract arriving.source).balance ∧ 4 ≠ 0) ∧
    (let s := { with3 { paced with balance := 0 } [] with globals := { GlobalSettings.powerOn with unmatchedAction := .free } }
     s.accepts arriving .read 5 ∧ s.decodeRegion arriving.address arriving.source arriving.beats = some 0 ∧ s.slotState 0 = .free ∧
        (∀ i < (0 : Fin 96), s.slotState i ≠ .free) ∧ (s.contract arriving.source).state = .paced ∧ s.hold arriving.source = [] ∧
        0 ≤ (s.contract arriving.source).balance) := by decide +kernel

/-- A first held request over a balance one short; a second one below its limit by one; and one at its limit. -/
theorem witness_TakeHoldsOrRefusesHoldFull :
    (let s := with3 paced []
     s.accepts arriving .read 5 ∧ s.decodeRegion arriving.address arriving.source arriving.beats = some 4 ∧
        (s.contract arriving.source).state = .paced ∧ (s.contract arriving.source).balance < 4 ∧ s.slotState 0 = .free ∧
        (∀ i < (0 : Fin 96), s.slotState i ≠ .free) ∧
        (s.hold arriving.source).length < (s.contract arriving.source).settings.holdLimit) ∧
    ∀ limit ∈ [2, 1],
      let s := with3 { paced with settings := { small with holdLimit := limit } } [stored 0]
      s.accepts arriving .read 5 ∧ s.decodeRegion arriving.address arriving.source arriving.beats = some 4 ∧
        (s.contract arriving.source).state = .paced ∧ s.hold arriving.source ≠ [] ∧ s.slotState 1 = .free ∧
        (∀ i < (1 : Fin 96), s.slotState i ≠ .free) ∧
        (limit = 2 → (s.hold arriving.source).length < (s.contract arriving.source).settings.holdLimit) ∧
        (limit = 1 → (s.contract arriving.source).settings.holdLimit ≤ (s.hold arriving.source).length) := by decide +kernel

theorem witness_HandOverDeliversTheHead :
    (busy.resetN = .high ∧ busy.upRdy = .high ∧ busy.returnQ = ⟨3, 7, .ok, []⟩ :: []) ∧
      (({ busy with resetN := .low } : State).resetN = .low ∧ ({ busy with upRdy := .low } : State).upRdy = .low ∧ up.returnQ = []) := by
  decide +kernel

/-- Entry 5 covers the last page of its range, and no entry below it does; and no entry covers one page above. -/
theorem witness_RegionDecisionTakesLowestCover :
    let s := up.setRegion 5 ⟨true, 1, 2, .blocked, .w4, 8#32⟩
    let covers := fun (a : Address) (i : Fin 16) => (s.region i).valid = true ∧ (s.region i).base ≤ a.toNat / 4096 ∧
      a.toNat / 4096 ≤ (s.region i).limit ∧ (s.region i).mask.getLsbD 3 = true
    (covers 0x2FE0#40 5 ∧ ∀ j < (5 : Fin 16), ¬ covers 0x2FE0#40 j) ∧ ∀ i, ¬ covers 0x3000#40 i := by decide +kernel

/-- Rotation pointer 1 with class 0 alone eligible, three places up; STRICT with classes 2 and 3 eligible; and none eligible at reset. -/
theorem witness_ArbiterGrantsByPolicy :
    let eligible := fun (s : State) (c : Fin 4) => s.queue c ≠ [] ∧ 1 ≤ (s.cls c).credits ∧ (∃ d, s.entry d = .free) ∧ s.dnRdy = .high ∧
      s.resetN = .high
    (let s := { up.setQueue 0 [stored 0] with rotation := 1 }
     s.globals.policy = .rotate ∧ eligible s (s.rotation + 3) ∧ ∀ j < (3 : Fin 4), ¬ eligible s (s.rotation + j)) ∧
    (let s := { (busy.setQueue 2 [stored 1]).setQueue 3 [stored 2] with globals := { GlobalSettings.powerOn with policy := .strict } }
     s.globals.policy = .strict ∧ eligible s 2 ∧ ∀ j < (2 : Fin 4), ¬ eligible s j) ∧
    ∀ c, ¬ eligible State.reset c := by decide +kernel

theorem witness_GrantSendsTheHead :
    let s := (up.setQueue 0 [stored 4]).setEntry 0 (.orphaned sent)
    s.winner = some 0 ∧ s.queue 0 = stored 4 :: [] ∧ s.entry 1 = .free ∧ ∀ e < (1 : Fin 64), s.entry e ≠ .free := by decide +kernel

theorem witness_CompletionAnswersActiveEntry :
    busy.resetN = .high ∧ busy.entry (DCompletion.ofMessage (completionHeader 0 9) []).tag = .active { sent with tag := 6 } := by
  decide +kernel

theorem witness_CompletionIsLateOrStray :
    let m := DCompletion.ofMessage (completionHeader 0 9) []
    (up.setEntry 9 (.orphaned sent)).resetN = .high ∧ (up.setEntry 9 (.orphaned sent)).entry m.tag = .orphaned sent ∧
      (up.resetN = .high ∧ up.entry m.tag = .free) ∧ ({ up with resetN := .low } : State).resetN = .low := by decide +kernel

/-- Entry 9 at a time. -/
def sentAt (time : Time) : State := { up.setEntry 9 (.active sent) with timeBase := time }

/-- At its due time, and one tick before it. -/
theorem witness_ResponseTimeoutOrphansEntry :
    ((sentAt 99).resetN = .high ∧ (sentAt 99).entry 9 = .active sent ∧ sent.due = some 99 ∧
      ((99 : Time) - sent.dispatch).toNat ≤ ((sentAt 99).timeBase - sent.dispatch).toNat) ∧
    (sentAt 98).resetN = .high ∧ ∀ r due, (sentAt 98).entry 9 = .active r → r.due = some due →
      ((sentAt 98).timeBase - r.dispatch).toNat < (due - r.dispatch).toNat := by
  refine ⟨by decide +kernel, by decide +kernel, fun r due h hd => ?_⟩
  rw [show (sentAt 98).entry 9 = .active sent by decide +kernel] at h
  cases h
  cases hd
  decide +kernel

/-- Ascending edges, and a latency on each side of the first, an inner and the last edge. -/
theorem witness_LatencyFallsInItsBin :
    let e : Vector Nat 7 := ClassRec.powerOn.edges
    (∀ i j : Fin 7, i < j → e[i] < e[j]) ∧ binOf e 3 = 0 ∧ binOf e 4 = 1 ∧ binOf e 15 = 1 ∧ binOf e 16 = 2 ∧ binOf e 16383 = 6 ∧
      binOf e 16384 = 7 := by decide +kernel

/-- Source 3 under a contract, at a time. -/
def contractAt (c : Contract) (time : Time) : State := { with3 c [] with timeBase := time }

/-- A period of 40 ticks from 60: due at 100, not yet at 99. -/
theorem witness_BoundaryRefillsAndDrains :
    ((contractAt paced 100).resetN = .high ∧ ((contractAt paced 100).contract 3).timer = .running .period 60 40 ∧
      40 ≤ ((contractAt paced 100).timeBase - 60).toNat) ∧
    (contractAt paced 99).resetN = .high ∧ ∀ start length, ((contractAt paced 99).contract 3).timer = .running .period start length →
      ((contractAt paced 99).timeBase - start).toNat < length := by
  refine ⟨by decide +kernel, by decide +kernel, fun start length h => ?_⟩
  rw [show ((contractAt paced 99).contract 3).timer = .running .period 60 40 by decide +kernel] at h
  cases h
  decide +kernel

/-- A window of 40 ticks from 60: due at 100, not yet at 99. -/
theorem witness_WindowEndSpends :
    ((contractAt window 100).resetN = .high ∧ ((contractAt window 100).contract 3).timer = .running .window 60 40 ∧
      40 ≤ ((contractAt window 100).timeBase - 60).toNat) ∧
    (contractAt window 99).resetN = .high ∧ ∀ start length, ((contractAt window 99).contract 3).timer = .running .window start length →
      ((contractAt window 99).timeBase - start).toNat < length := by
  refine ⟨by decide +kernel, by decide +kernel, fun start length h => ?_⟩
  rw [show ((contractAt window 99).contract 3).timer = .running .window 60 40 by decide +kernel] at h
  cases h
  decide +kernel

/-- A head of 90 under a limit of 4 ticks: due at 94 under either action, not yet at 93; and the other three ways to have no expiry. -/
theorem witness_HeadExpiryRefusesOrForces :
    (∀ action ∈ [WaitAction.refuse, .force],
      let s := { with3 { paced with settings := { small with waitAction := action } } [stored 0] with timeBase := 94 }
      s.resetN = .high ∧ s.hold 3 = stored 0 :: [] ∧ (s.contract 3).state = .paced ∧ (s.contract 3).settings.waitLimit ≠ 0 ∧
        4 * (s.contract 3).settings.waitLimit ≤ (s.timeBase - (stored 0).arrival).toNat) ∧
    (with3 paced []).hold 3 = [] ∧ (up.contract 3).state ≠ .paced ∧
    ((with3 { paced with settings := { small with waitLimit := 0 } } [stored 0]).contract 3).settings.waitLimit = 0 ∧
    (let s := { with3 paced [stored 0] with timeBase := 93 }
     s.resetN = .high ∧ s.hold 3 = stored 0 :: [] ∧ (s.timeBase - (stored 0).arrival).toNat < 4 * (s.contract 3).settings.waitLimit) := by
  decide +kernel

/-- An empty list; a head of charge 4 over balances 3 and 4; a head of charge 0; a head that stays below its limit, and one that has reached it,
under each action. -/
theorem witness_DrainMovesCoveredHeadsAndChecksTheNext :
    (with3 paced []).hold 3 = [] ∧
    (let s := with3 paced [stored 0]
     s.hold 3 = stored 0 :: [] ∧ (s.contract 3).balance < (stored 0).charge) ∧
    (let s := with3 { paced with balance := 4 } [stored 0]
     s.hold 3 = stored 0 :: [] ∧ (stored 0).charge ≤ (s.contract 3).balance ∧ (stored 0).charge ≠ 0) ∧
    (with3 paced [{ stored 0 with charge := 0 }]).hold 3 = { stored 0 with charge := 0 } :: [] ∧
    (let t := (with3 { paced with settings := { small with waitLimit := 3 } } [stored 0]).drainAndCheck 3
     (t.contract 3).state = .paced ∧ (t.contract 3).settings.waitLimit ≠ 0 ∧ stored 0 ∈ (t.hold 3).head?) ∧
    (let d := (with3 { paced with settings := { small with waitLimit := 3 } } [stored 0]).drain 3
     stored 0 ∈ (d.hold 3).head? ∧ ¬ 4 * (d.contract 3).settings.waitLimit ≤ (d.timeBase - (stored 0).arrival).toNat) ∧
    ∀ action ∈ [WaitAction.refuse, .force],
      let d := (with3 { paced with settings := { small with waitAction := action } } [stored 0]).drain 3
      d.hold 3 = stored 0 :: [] ∧ (d.contract 3).state = .paced ∧ (d.contract 3).settings.waitLimit ≠ 0 ∧
        4 * (d.contract 3).settings.waitLimit ≤ (d.timeBase - (stored 0).arrival).toNat := by decide +kernel

/-- A line at a time. -/
def lineAt (l : Line) (time : Time) : State := { up.setLine 2 l with timeBase := time }

/-- The four ways of a pin change to high (no change, back to the settled level, filtered, at once under each edge setting); a transition seen at 96
under filter 1, due at 100 and not yet at 99. -/
theorem witness_PinChangeSettlesAfterTheFilter :
    (∀ l ∈ [(⟨.rising, 0, .high, none, .high⟩ : Line), ⟨.rising, 1, .high, some (.low, 99), .low⟩, ⟨.rising, 1, .low, none, .low⟩,
      ⟨.rising, 0, .low, none, .low⟩, ⟨.falling, 0, .low, none, .low⟩, ⟨.both, 15, .low, some (.high, 40), .high⟩,
      ⟨.falling, 1, .low, some (.high, 96), .high⟩], (lineAt l 100).resetN = .high ∧ (lineAt l 100).line 2 = l) ∧
    4 * 15 ≤ ((lineAt ⟨.both, 15, .low, some (.high, 40), .high⟩ 100).timeBase - 40).toNat ∧
    4 * 1 ≤ ((lineAt ⟨.falling, 1, .low, some (.high, 96), .high⟩ 100).timeBase - 96).toNat ∧
    (let s := lineAt ⟨.both, 1, .low, some (.high, 96), .high⟩ 99
     s.resetN = .high ∧ ∀ level seen, (s.line 2).transition = some (level, seen) → (s.timeBase - seen).toNat < 4 * (s.line 2).filter) := by
  refine ⟨by decide +kernel, by decide +kernel, by decide +kernel, by decide +kernel, fun level seen h => ?_⟩
  rw [show ((lineAt ⟨.both, 1, .low, some (.high, 96), .high⟩ 99).line 2).transition = some (.high, 96) by decide +kernel] at h
  cases h
  decide +kernel

/-- Source 0 is not bound; source 3 is, two edges short of a boundary, and one edge short of it with an empty list and with a list that its boundary
drains; and every bound source's timer is stopped. -/
theorem witness_QualifyingEdgeCountsBoundSources :
    let bound := fun c : Contract => c.state = .paced ∧ c.settings.mode = .triggered ∧ c.settings.triggerLine = 2
    ¬ bound ((with3 triggered []).contract 0) ∧
    (let c := (with3 { triggered with edgeCount := 0 } []).contract 3
     bound c ∧ c.edgeCount + 1 ≠ c.settings.edgesPerRefill) ∧
    (let s := with3 triggered []
     bound (s.contract 3) ∧ (s.contract 3).edgeCount + 1 = (s.contract 3).settings.edgesPerRefill ∧ (s.contract 3).timer = .stopped ∧
        s.hold 3 = []) ∧
    (let s := with3 triggered [stored 0]
     (∀ src, bound (s.contract src) → (s.contract src).timer = .stopped) ∧ s.hold 3 ≠ [] ∧ (s.qualifyingEdge 2).hold 3 = []) := by
  decide +kernel

/-- A command cut one byte before its take, and a response cut one byte before its end; a port that does not listen, for each reason; MCS_N falling,
and rising with no byte, with a byte, with 5 of 6 response bytes out, with all 6 out, and in an ignored period. -/
theorem witness_CutsSetTheFrameFault :
    (up.listening ∧ reachesTake [0x12#8, 3#8, 1#8] = false) ∧
      ((up.answered 0x03#8 .ok [0, 0, 0, 1]).listening ∧
        (up.answered 0x03#8 .ok [0, 0, 0, 1]).response = some ⟨0x03#8, .ok, [0, 0, 0, 1]⟩ ∧ 5 < [0, 0, 0, 1].length + 2) ∧
      (¬ (({ up with resetN := .low } : State).resetN = .high ∧ up.portIgnore = false) ∧
        ¬ (up.resetN = .high ∧ ({ up with portIgnore := true } : State).portIgnore = false) ∧
        (Instr.timeRead (frame 0 [])).opcode? ≠ none) ∧
      (up.resetN = .high ∧ up.port.mcsN = .high) ∧
      ∀ p ∈ [(([] : List Byte), (none : Option Nat)), ([0x12#8, 3#8, 1#8], none), ([], some 47), ([], some 48)],
        let s := { up.answered 0x03#8 .ok [0, 0, 0, 1] with port := { Port.idle with mcsN := .low, bytes := p.1, sent := p.2 } }
        s.resetN = .high ∧ s.port.mcsN = .low ∧ s.portIgnore = false ∧ ({ s with portIgnore := true } : State).portIgnore = true ∧
          s.response = some ⟨0x03#8, .ok, [0, 0, 0, 1]⟩ ∧ reachesTake s.port.bytes = false ∧ 47 / 8 < 6 ∧ 6 ≤ 48 / 8 := by decide +kernel

theorem witness_RefusedManagementCommandChangesNothing :
    (up.listening ∧ (Instr.contractRead (frame 32 [])).opcode? = some 0x10#8 ∧
      exec (.contractRead (frame 32 [])) up = .next (up.answered 0x10#8 .badIndex []) ∧
      (up.answered 0x10#8 .badIndex []).response = some ⟨0x10#8, .badIndex, []⟩ ∧ Status.badIndex ≠ .ok ∧ Status.badIndex ≠ .staged) ∧
    (Instr.status ⟨0, 49, []⟩).opcode? = some 0x02#8 ∧ (Instr.status ⟨0, 49, []⟩).frame? = some ⟨0, 49, []⟩ ∧
    (∀ o g, Instr.status ⟨0, 49, []⟩ ≠ .unknownOpcode o g) ∧ 48 < (49 : Byte).toNat :=
  ⟨⟨by decide +kernel, rfl, rfl, rfl, by decide, by decide⟩, rfl, rfl, nofun, by decide⟩

theorem witness_IdentifyStatusAndTimeAnswer : busy.listening ∧ (frame 255 []).len.toNat = 0 ∧ (frame 0 [0#8]).len.toNat ≠ 0 := by
  decide +kernel

/-- The last index of each range and the first one past it, the two lengths at each check, and the positions of a list of one. -/
theorem witness_TableReadsAnswerTheRecord :
    busy.listening ∧ (∀ f ∈ [frame 31 [], frame 32 [], frame 15 [], frame 16 [], frame 3 [], frame 4 [], frame 3 [0#8], frame 3 [1#8],
      frame 3 [0#8, 0#8]], f.len.toNat ≤ 48) ∧
    (32 ≤ (frame 32 []).index.toNat ∧ 16 ≤ (frame 16 []).index.toNat ∧ 4 ≤ (frame 4 []).index.toNat) ∧
    ((frame 31 []).index.toNat = (31 : Fin 32).val ∧ (frame 15 []).index.toNat = (15 : Fin 16).val ∧
      (frame 3 []).index.toNat = (3 : Fin 4).val ∧ (frame 3 []).index.toNat = (3 : Fin 32).val) ∧
    ((frame 3 []).len.toNat = 0 ∧ (frame 3 [0#8]).len.toNat = 1 ∧ (frame 3 [0#8, 0#8]).len.toNat ≠ 1) ∧
    ((busy.hold 3).length ≤ (frame 3 [1#8]).u8 0 ∧ (busy.hold 3)[(frame 3 [0#8]).u8 0]? = some (stored 0)) := by decide +kernel

/-- Lengths beside 2 and scopes 3 and flag 2, also with the clear flag set; an index one past each scope's range; the last index of each scope with
both flags. -/
theorem witness_CountersReadSnapshotsAndClears :
    busy.listening ∧ ((frame 0 [2#8]).len.toNat ≠ 2 ∧ (frame 0 [0#8, 1#8, 0#8]).len.toNat ≠ 2) ∧
    (2 < (frame 0 [3#8, 0#8]).u8 0 ∧ 2 < (frame 0 [3#8, 1#8]).u8 0 ∧ 1 < (frame 0 [0#8, 2#8]).u8 1) ∧
    (∀ p ∈ [(32, 0#8), (4, 1#8), (1, 2#8)], ∀ clear ∈ [0#8, 1#8],
      let f := frame p.1 [p.2, clear]
      f.len.toNat = 2 ∧ (f.u8 0 = 0 ∧ 32 ≤ f.index.toNat ∨ f.u8 0 = 1 ∧ 4 ≤ f.index.toNat ∨ f.u8 0 = 2 ∧ f.index.toNat ≠ 0) ∧
        f.u8 1 ≤ 1) ∧
    (∀ p ∈ [(31, 0#8), (3, 1#8), (0, 2#8)], ∀ clear ∈ [0#8, 1#8],
      let f := frame p.1 [p.2, clear]
      f.len.toNat = 2 ∧ (f.u8 0 = 0 ∧ f.index.toNat = (31 : Fin 32).val ∨ f.u8 0 = 1 ∧ f.index.toNat = (3 : Fin 4).val ∨
        f.u8 0 = 2 ∧ f.index.toNat = 0) ∧ (f.u8 1 = 0 ∨ f.u8 1 = 1)) := by decide +kernel

/-- A queue whose head has sequence 258, without and with lost events. -/
theorem witness_EventReadShowsAndReleaseRemovesTheHead :
    let one : State := { up with evq := ⟨[refusalRecord], 259, 0⟩ }
    let lost : State := { up with evq := ⟨refusalRecord :: List.replicate 31 ⟨259, 100, .contractApplied 0⟩, 290, 0xFFFFFFFF#32⟩ }
    (up.listening ∧ up.evq.records = []) ∧ (frame 0 [0#8]).len.toNat ≠ 0 ∧ (frame 0 [0#8]).len.toNat ≠ 2 ∧
      (frame 0 []).len.toNat = 0 ∧ (frame 0 [1#8, 2#8]).len.toNat = 2 ∧
      (one.listening ∧ one.evq.records = refusalRecord :: [] ∧ refusalRecord.seq.toNat = (frame 0 [1#8, 2#8]).u16 0 ∧ one.evq.lost = 0 ∧
        refusalRecord.seq.toNat ≠ (frame 0 [1#8, 3#8]).u16 0) ∧
      lost.listening ∧ lost.evq.records = refusalRecord :: List.replicate 31 ⟨259, 100, .contractApplied 0⟩ ∧ lost.evq.lost ≠ 0 := by
  decide +kernel

/-- Payload `p` with byte `i` replaced. -/
def withByte (p : List Byte) (i : Nat) (b : Byte) : List Byte := p.set i b

/-- Index 16, a length of 14, each field just past its range; and entry 15 written with the payload of the tests. -/
theorem witness_RegionWriteReplacesTheEntry :
    up.listening ∧ (∀ f ∈ [frame 16 [], frame 15 (List.replicate 14 0#8), frame 15 regionPayload], f.len.toNat ≤ 48) ∧
    16 ≤ (frame 16 []).index.toNat ∧ (frame 15 (List.replicate 14 0#8)).len.toNat ≠ 15 ∧
    (∀ p ∈ [(0, 2#8), (9, 3#8), (10, 3#8), (1, 0x10#8), (5, 0x10#8), (8, 0#8)],
      let f := frame 15 (withByte regionPayload p.1 p.2)
      f.index.toNat < 16 ∧ f.len.toNat = 15 ∧
        (1 < f.u8 0 ∨ 2 < f.u8 9 ∨ (f.u8 10 ≠ 1 ∧ f.u8 10 ≠ 2 ∧ f.u8 10 ≠ 4) ∨ 2 ^ 28 ≤ f.u32 1 ∨ 2 ^ 28 ≤ f.u32 5 ∨
          f.u32 5 < f.u32 1)) ∧
    (let f := frame 15 regionPayload
     let r : Region := ⟨true, 1, 2, .blocked, .w4, 8#32⟩
     let g : Frame := ⟨15, 0, []⟩
     f.index.toNat = (15 : Fin 16).val ∧ f.len.toNat = 15 ∧ f.WellFormed = true ∧ f.u8 0 = (if r.valid then 1 else 0) ∧ r.base = f.u32 1 ∧
        r.limit = f.u32 5 ∧ r.base ≤ r.limit ∧ r.limit < 2 ^ 28 ∧ r.action.code = f.u8 9 ∧ r.weight.beats = f.u8 10 ∧
        r.mask = BitVec.ofNat 32 (f.u32 11) ∧ g.index = f.index ∧ g.len = 0) := by decide +kernel

/-- The settings of `payload`. -/
def payloadSettings : Settings := ⟨.triggered, 1, 64, 16, .t0, 40, 2, 2, 4, 5, .force⟩

/-- CONTRACT_WRITE: index 32, a length of 15, each field and the ceiling just past its range, a change of mode in PACED, a change of class in UNPACED
with a stored request. Source commands: index 32, a length of 2, codes 0 and 6, each code in a state that does not allow it. -/
theorem witness_ContractCommandsAreCheckedInOrder :
    (up.listening ∧ 32 ≤ (frame 32 payload).index.toNat ∧ (frame 31 payload).index.toNat = (31 : Fin 32).val ∧
      (frame 31 (List.replicate 15 0#8)).len.toNat ≠ 16) ∧
    (∀ p ∈ [(0, 3#8), (1, 4#8), (3, 0#8), (6, 4#8), (8, 0#8), (7, 0x10#8), (9, 4#8), (11, 0#8), (10, 1#8), (12, 33#8), (15, 2#8), (3, 47#8),
        (2, 0xFF#8)],
      let f := frame 3 (withByte (if p.1 = 2 then withByte payload 4 1#8 else payload) p.1 p.2)
      f.len.toNat = 16 ∧ f.len.toNat ≤ 48 ∧
        (2 < f.u8 0 ∨ 3 < f.u8 1 ∨ f.u16 2 = 0 ∨ 3 < f.u8 6 ∨ f.u16 7 = 0 ∨ 4096 < f.u16 7 ∨ 3 < f.u8 9 ∨ f.u16 10 = 0 ∨
          256 < f.u16 10 ∨ 32 < f.u8 12 ∨ 1 < f.u8 15 ∨ f.u16 2 + f.u16 4 < 64 ∨ 65535 < f.u16 2 + f.u16 4)) ∧
    (let f := frame 3 payload
     let x := payloadSettings
     f.len.toNat = 16 ∧ f.index.toNat = (3 : Fin 32).val ∧ Settings.ofFrame f = some x ∧ 64 ≤ x.budget + x.carry ∧
        x.budget + x.carry ≤ 65535 ∧
        (let s := with3 paced []
         s.listening ∧ (s.contract 3).state ≠ .unpaced ∧ x.mode ≠ (s.contract 3).settings.mode) ∧
        (let s := up.setQueue 0 [stored 0]
         s.listening ∧ (s.contract 3).state = .unpaced ∧ x.cls ≠ (s.contract 3).settings.cls ∧ s.storesOf 3 = true)) ∧
    (32 ≤ (frame 32 [1#8]).index.toNat ∧ (frame 31 [1#8, 0#8]).len.toNat ≠ 1 ∧ (frame 31 [0#8]).u8 0 = 0 ∧ 5 < (frame 31 [6#8]).u8 0) ∧
    (let s := with3 paced []
     s.listening ∧ (frame 3 [1#8]).index.toNat = (3 : Fin 32).val ∧ (frame 3 [1#8]).len.toNat = 1 ∧ (frame 3 [1#8]).u8 0 = 1 ∧
        (s.contract 3).state ≠ .unpaced ∧ (frame 3 [4#8]).u8 0 = 4 ∧ (s.contract 3).state ≠ .barred ∧ (frame 3 [5#8]).u8 0 = 5 ∧
        (s.contract 3).settings.mode ≠ .oneShot ∧ (frame 3 [2#8]).u8 0 = 2 ∧ (up.contract 3).state = .unpaced ∧
        (frame 3 [3#8]).u8 0 = 3 ∧ ((with3 { paced with state := .barred } []).contract 3).state = .barred) := by decide +kernel

/-- Applied in UNPACED to another mode and class; staged in PACED with the live mode and class. -/
theorem witness_ContractWriteAppliesOrStages :
    let f := frame 3 payload
    let x := payloadSettings
    let s := with3 { triggered with settings := { triggered.settings with cls := 1 } } []
    f.index.toNat = (3 : Fin 32).val ∧ f.len.toNat = 16 ∧ f.WellFormed = true ∧ Settings.ofFrame f = some x ∧ 64 ≤ x.budget + x.carry ∧
      x.budget + x.carry ≤ 65535 ∧
      (up.listening ∧ (up.contract 3).state = .unpaced ∧ up.storesOf 3 = false) ∧
      (s.listening ∧ (s.contract 3).state = .paced ∧ x.mode = (s.contract 3).settings.mode ∧ x.cls = (s.contract 3).settings.cls) := by
  decide +kernel

theorem witness_EnablePacesAndUnbarUnpaces :
    (∀ f ∈ [frame 3 [1#8], frame 3 [2#8], frame 3 [4#8]], f.index.toNat = (3 : Fin 32).val ∧ f.len.toNat = 1) ∧
    ((frame 3 [1#8]).u8 0 = 1 ∧ up.listening ∧ (up.contract 3).state = .unpaced) ∧
    (let s := with3 { paced with state := .barred, timer := .stopped } []
     (frame 3 [4#8]).u8 0 = 4 ∧ s.listening ∧ (s.contract 3).state = .barred) ∧
    (let s := with3 { window with state := .spent, balance := 0, timer := .stopped } []
     (frame 3 [2#8]).u8 0 = 2 ∧ s.listening ∧ (s.contract 3).state = .spent) := by decide +kernel

theorem witness_DisableReleasesTheList :
    busy.listening ∧ (frame 3 [2#8]).index.toNat = (3 : Fin 32).val ∧ (frame 3 [2#8]).len.toNat = 1 ∧ (frame 3 [2#8]).u8 0 = 2 ∧
      (busy.contract 3).state = .paced := by decide +kernel

theorem witness_BarRefusesHeldAndQueued :
    busy.listening ∧ (frame 3 [3#8]).index.toNat = (3 : Fin 32).val ∧ (frame 3 [3#8]).len.toNat = 1 ∧ (frame 3 [3#8]).u8 0 = 3 ∧
      (busy.contract 3).state ≠ .barred := by decide +kernel

/-- In PACED with a staged copy, and in SPENT. -/
theorem witness_ArmStartsAWindow :
    (frame 3 [5#8]).index.toNat = (3 : Fin 32).val ∧ (frame 3 [5#8]).len.toNat = 1 ∧ (frame 3 [5#8]).u8 0 = 5 ∧
    ∀ c ∈ [{ window with staged := some window.settings }, { window with state := .spent, balance := 0, timer := .stopped }],
      let s := with3 c []
      s.listening ∧ ((s.contract 3).state = .paced ∨ (s.contract 3).state = .spent) ∧ (s.contract 3).settings.mode = .oneShot ∧
        ∀ x ∈ (s.contract 3).staged, x.mode = .oneShot := by decide +kernel

/-- Index 4, a length of 16, credits 0 and 33, a first edge of 0, two equal edges; and class 3 written with credit 32. -/
theorem witness_ClassWriteAppliesOrStagesCredit :
    up.listening ∧ 4 ≤ (frame 4 classPayload).index.toNat ∧ (frame 3 (List.replicate 16 0#8)).len.toNat ≠ 17 ∧
    (∀ p ∈ [(0, 0#8), (0, 33#8), (4, 0#8), (16, 6#8)],
      let f := frame 3 (withByte classPayload p.1 p.2)
      f.index.toNat < 4 ∧ f.len.toNat = 17 ∧
        (f.u8 0 = 0 ∨ 32 < f.u8 0 ∨ f.u16 3 = 0 ∨ ∃ i < 6, f.u16 (5 + 2 * i) ≤ f.u16 (3 + 2 * i))) ∧
    (let f := frame 3 (withByte classPayload 0 32#8)
     f.index.toNat = (3 : Fin 4).val ∧ f.len.toNat = 17 ∧ f.len.toNat ≤ 48 ∧ 1 ≤ f.u8 0 ∧ f.u8 0 ≤ 32 ∧ f.u16 3 ≠ 0 ∧
        ∀ i < 6, f.u16 (3 + 2 * i) < f.u16 (5 + 2 * i)) := by decide +kernel

/-- Index 4, a length of 1, edge 3 and filter 16; line 3 with filters 15 and 0, without and with a pending transition. -/
theorem witness_LineWriteReplacesSettings :
    up.listening ∧ 4 ≤ (frame 4 [0#8, 0#8]).index.toNat ∧ (frame 3 [0#8]).len.toNat ≠ 2 ∧ 2 < (frame 3 [3#8, 0#8]).u8 0 ∧
      15 < (frame 3 [0#8, 16#8]).u8 1 ∧
    (∀ b ∈ [15#8, 0#8],
      let f := frame 3 [2#8, b]
      f.index.toNat = (3 : Fin 4).val ∧ f.len.toNat = 2 ∧ f.len.toNat ≤ 48 ∧ f.u8 0 = EdgeSetting.both.code ∧ f.u8 1 ≤ 15 ∧
        (f.u8 1 ≠ 0 ∨ f.u8 1 = 0)) ∧
    (up.line 3).transition = none ∧ (up.setLine 3 ⟨.rising, 1, .low, some (.high, 98), .high⟩).listening ∧
    ((up.setLine 3 ⟨.rising, 1, .low, some (.high, 98), .high⟩).line 3).transition = some (.high, 98) := by decide +kernel

/-- A length of 4, each field just past its range; and a payload with the largest mask. -/
theorem witness_GlobalWriteReplacesSettings :
    up.listening ∧ (frame 0 [0#8, 0#8, 1#8, 0#8]).len.toNat ≠ 5 ∧
    (∀ f ∈ [frame 0 [2#8, 0#8, 1#8, 0#8, 0#8], frame 0 [0#8, 3#8, 1#8, 0#8, 0#8], frame 0 [0#8, 0#8, 3#8, 0#8, 0#8],
        frame 0 [0#8, 0#8, 1#8, 0x20#8, 0#8]],
      f.len.toNat = 5 ∧ (1 < f.u8 0 ∨ 2 < f.u8 1 ∨ (f.u8 2 ≠ 1 ∧ f.u8 2 ≠ 2 ∧ f.u8 2 ≠ 4) ∨ 2 ^ 13 ≤ f.u16 3)) ∧
    (let f := frame 0 [1#8, 2#8, 4#8, 0x1F#8, 0xFF#8]
     let x : GlobalSettings := ⟨.strict, .blocked, .w4, 0x1FFF#13⟩
     f.len.toNat = 5 ∧ f.len.toNat ≤ 48 ∧ f.WellFormed = true ∧ x.policy.code = f.u8 0 ∧ x.unmatchedAction.code = f.u8 1 ∧
        x.unmatchedWeight.beats = f.u8 2 ∧ x.mask.toNat = f.u16 3 ∧ (frame 0 []).len = 0) := by decide +kernel

theorem witness_TrafficResetAbortsAndRestarts :
    busy.listening ∧ (frame 0 [0#8]).len.toNat ≠ 0 ∧ (frame 0 []).len.toNat = 0 ∧ (busy.contract 3).state = .paced ∧
      (busy.contract 0).state ≠ .paced := by decide +kernel

theorem witness_StagedCopyIsAppliedWhole :
    (busy.contract 3).staged = none ∧ ((with3 { paced with staged := some small } []).contract 3).staged = some small := by decide +kernel

/-- HOLD_START masked; REFUSAL enabled over 31 records and over 32; OVERFLOW whatever the mask. -/
theorem witness_RaisedEventJoinsOrIsLost :
    let enabled := fun (s : State) (e : Event) => e.kindCode = 13 ∨ s.globals.mask.getLsbD e.kindCode = true
    let records := fun n => ({ up with evq := ⟨List.replicate n refusalRecord, 0, 0⟩ } : State)
    ¬ enabled up (.holdStart 3 5) ∧ enabled up (.refusal 3 5 .barred) ∧
      enabled { up with globals := { GlobalSettings.powerOn with mask := 0 } } (.overflow 1) ∧
      (records 31).evq.records.length < 32 ∧ 32 ≤ (records 32).evq.records.length := by decide +kernel

theorem witness_CountersWrapWithAnEvent :
    (2 ^ 32 - 1 : Nat) < 2 ^ 32 ∧ SourceCounter.arrivals ≠ .freeBeats ∧ ClassCounter.bin 0 ≠ .bin 7 ∧ GlobalCounter.stray ≠ .malformed ∧
      (0 : Fin 32) ≠ 31 := by decide

/-- What the step of `busy` leaves: the hand-over of its completion. -/
def busyNext : State := ({ busy with pending := [] } : State).handOverHead ⟨3, 7, .ok, []⟩

theorem witness_busy_steps : step busy = .next busyNext := by rfl

theorem witness_StepKeepsTicketLaw : busy.TicketLaw := by decide +kernel

theorem witness_StepKeepsBalanceLaw : busy.BalanceLaw := by decide +kernel

theorem witness_StepKeepsHoldLaw : busy.HoldLaw := by decide +kernel

theorem witness_StepKeepsEventLaw : busy.EventLaw := by decide +kernel

theorem witness_StepKeepsCreditLaw : busy.CreditLaw := by decide +kernel

theorem witness_StepKeepsHistogramLaw : busy.HistogramLaw := by decide +kernel

theorem witness_StepKeepsTimerAndLineLaws : busy.TimerLaw ∧ busy.LineLaw ∧ busy.PortLaw := by decide +kernel

theorem witness_StepKeepsStoreLaws : busy.ClassLaw ∧ busy.SlotLaw := by decide +kernel

theorem witness_StepKeepsLiveLaw : busy.LiveLaw := by decide +kernel

/-- A command; MSCK with MCS_N high and in an ignored period; a rise of MSCK at the first and the eighth bit of a byte, before the take and at it;
edges after the take. -/
theorem witness_FrameParserReadsWhatIsSent :
    ((Instr.bar (frame 3 [3#8])).WellFormed = true ∧ (Instr.bar (frame 3 [3#8])).frameBytes = some [0x12#8, 3#8, 1#8, 3#8]) ∧
    (up.resetN = .high ∧ up.port.mcsN = .high ∧ ({ up with portIgnore := true } : State).portIgnore = true) ∧
    (∀ p ∈ [([0x12#8], ([] : List Bool)), ([0x12#8], List.replicate 6 true), ([0x12#8], List.replicate 7 true),
        ([0x03#8, 0#8], List.replicate 7 false)],
      let s := { up with port := { Port.idle with mcsN := .low, bytes := p.1, bits := p.2 } }
      s.resetN = .high ∧ s.portIgnore = false ∧ s.port.mcsN = .low ∧ s.port.msck = .low ∧ s.port.sent = none ∧
        reachesTake s.port.bytes = false ∧ s.port.bits.length < 8) ∧
    (reachesTake ([0x12#8] ++ [byteOfBits (List.replicate 8 true)]) = false ∧
      decodeFrame ([0x03#8, 0#8] ++ [byteOfBits (List.replicate 8 false)]) = some (.timeRead (frame 0 []))) ∧
    ∀ level ∈ [Level.low, .high],
      let s := { up.answered 0x03#8 .ok [0, 0, 0, 1] with port := { Port.idle with mcsN := .low, msck := level, sent := some 47 } }
      s.resetN = .high ∧ s.portIgnore = false ∧ s.port.mcsN = .low ∧ s.port.msck = level ∧ s.port.sent = some 47 ∧
        s.response = some ⟨0x03#8, .ok, [0, 0, 0, 1]⟩ := by decide +kernel

end Sys2Proof.Tests
end

section
/-! What the resets leave in each table: POWER_ON_RESET, a fall of RESET_N and an upstream reset read back at an index. -/

namespace Sys2Proof.Machine

/-- No pair is live in a Live Tag Map with every set empty (R21). -/
theorem live_of_noLiveTags {s : State} (h : s.liveTags = noLiveTags) (i : Fin 32) (j : Fin 16) : s.live i j = false := by
  simp [State.live, h, noLiveTags]

namespace State

/-! ### The power-on tables (R21, R33, R58, R123, R154) -/

section powerOn

variable {upRdy dnRdyPin : Level} {trig : Vector Level 4} {port : Port} {pending : List Instr} {wire : List PortEdge} {choices : Nat}

@[simp] theorem powerOn_live (i : Fin 32) (j : Fin 16) :
    (State.powerOn upRdy dnRdyPin trig port pending wire choices).live i j = false :=
  live_of_noLiveTags rfl i j

@[simp] theorem powerOn_region (i : Fin 16) :
    (State.powerOn upRdy dnRdyPin trig port pending wire choices).region i = Region.powerOn := by
  simp [region, powerOn]

@[simp] theorem powerOn_contract (i : Fin 32) :
    (State.powerOn upRdy dnRdyPin trig port pending wire choices).contract i = Contract.powerOn := by
  simp [contract, powerOn]

@[simp] theorem powerOn_hold (i : Fin 32) : (State.powerOn upRdy dnRdyPin trig port pending wire choices).hold i = [] := by
  simp [hold, powerOn]

@[simp] theorem powerOn_queue (c : Fin 4) : (State.powerOn upRdy dnRdyPin trig port pending wire choices).queue c = [] := by
  simp [queue, powerOn]

@[simp] theorem powerOn_cls (c : Fin 4) :
    (State.powerOn upRdy dnRdyPin trig port pending wire choices).cls c = ClassRec.powerOn := by
  simp [cls, powerOn]

@[simp] theorem powerOn_entry (d : Fin 64) : (State.powerOn upRdy dnRdyPin trig port pending wire choices).entry d = .free := by
  simp [entry, powerOn]

@[simp] theorem powerOn_srcCount (i : Fin 32) :
    (State.powerOn upRdy dnRdyPin trig port pending wire choices).srcCount i = SourceCounts.cleared := by
  simp [srcCount, powerOn]

@[simp] theorem powerOn_clsCount (c : Fin 4) :
    (State.powerOn upRdy dnRdyPin trig port pending wire choices).clsCount c = ClassCounts.cleared := by
  simp [clsCount, powerOn]

@[simp] theorem powerOn_line (n : Fin 4) :
    (State.powerOn upRdy dnRdyPin trig port pending wire choices).line n = Line.powerOn trig[n] := by
  simp [line, powerOn]

/-- With no region valid and the unmatched action PACED at weight 1, the charge of a request is its beats (R26, R27, R33). -/
theorem powerOn_decodeRegion (address : Address) (src : Fin 32) (beats : Nat) :
    (State.powerOn upRdy dnRdyPin trig port pending wire choices).decodeRegion address src beats = some beats := by
  have hm : (State.powerOn upRdy dnRdyPin trig port pending wire choices).matchRegion (pageOf address) src = none := by
    simp [matchRegion, powerOn, Region.covers, Region.powerOn]
  rw [decodeRegion, hm]
  exact congrArg some (Nat.mul_one beats)

end powerOn

/-! ### A fall of RESET_N (R21) -/

@[simp] theorem abandon_hold (s : State) (i : Fin 32) : s.abandon.hold i = [] := by simp [hold, abandon]

@[simp] theorem abandon_queue (s : State) (c : Fin 4) : s.abandon.queue c = [] := by simp [queue, abandon]

@[simp] theorem abandon_entry (s : State) (d : Fin 64) : s.abandon.entry d = .free := by simp [entry, abandon]

@[simp] theorem abandon_contract (s : State) (i : Fin 32) :
    s.abandon.contract i = { s.contract i with timer := .stopped } := by
  simp [contract, abandon]

/-! ### An upstream reset (R18) -/

@[simp] theorem dropUpstream_hold (s : State) (i : Fin 32) : s.dropUpstream.hold i = [] := by simp [hold, dropUpstream]

@[simp] theorem dropUpstream_queue (s : State) (c : Fin 4) : s.dropUpstream.queue c = [] := by simp [queue, dropUpstream]

@[simp] theorem dropUpstream_entry (s : State) (d : Fin 64) : s.dropUpstream.entry d = (s.entry d).orphan := by
  simp [entry, dropUpstream]

/-! ### Empty stores -/

theorem occupancy_eq_zero {s : State} (hh : ∀ i, s.hold i = []) (hq : ∀ c, s.queue c = []) : s.occupancy = 0 := by
  simp [occupancy, hh, hq]

theorem storedInOrder_eq_nil {s : State} (hh : ∀ i, s.hold i = []) (hq : ∀ c, s.queue c = []) : s.storedInOrder = [] := by
  simp [storedInOrder, hh, hq]

end State
end Sys2Proof.Machine
end

section
/-! The live requests of the part as one multiset of (source, wire tag) pairs. TicketLaw (R6) speaks of its size and LiveLaw (R11, R140) of
the multiplicity of each pair, so one account of what an operation does to the multiset serves both. -/

namespace Sys2Proof.Machine

/-! ### The pairs of live requests -/

/-- The pair that names a stored request. -/
def StoredReq.pair (r : StoredReq) : Fin 32 × Fin 64 := (r.source, wireTag r.tag)

/-- The pair that a completion answers. -/
def completionPair (c : Completion) : Fin 32 × Fin 64 := (c.source, c.tag)

/-- The pairs of a hold list or a dispatch queue. -/
def storedPairs (l : List StoredReq) : Multiset (Fin 32 × Fin 64) := (l.map StoredReq.pair : List (Fin 32 × Fin 64))

/-- The pair that waits for an ACTIVE entry; an ORPHANED entry's request is no longer live (R124, R140). -/
def Entry.pairs : Entry → Multiset (Fin 32 × Fin 64)
  | .free => 0
  | .active r => {(r.source, wireTag r.tag)}
  | .orphaned _ => 0

/-- The pairs of the completions on the Return Queue. -/
def returnPairs (l : List Completion) : Multiset (Fin 32 × Fin 64) := (l.map completionPair : List (Fin 32 × Fin 64))

/-- The pairs of all live requests: stored, ACTIVE, or answered and waiting on the Return Queue (R6, R11). -/
def State.livePairs (s : State) : Multiset (Fin 32 × Fin 64) :=
  (∑ src, storedPairs (s.hold src)) + (∑ c, storedPairs (s.queue c)) + (∑ d, (s.entry d).pairs) + returnPairs s.returnQ

@[simp] theorem storedPairs_nil : storedPairs [] = 0 := rfl

@[simp] theorem storedPairs_cons (r : StoredReq) (l : List StoredReq) : storedPairs (r :: l) = {r.pair} + storedPairs l := rfl

@[simp] theorem storedPairs_append (a b : List StoredReq) : storedPairs (a ++ b) = storedPairs a + storedPairs b := by
  simp [storedPairs]

theorem storedPairs_flatMap {ι : Type} (f : ι → List StoredReq) (l : List ι) :
    storedPairs (l.flatMap f) = (l.map fun i => storedPairs (f i)).sum := by
  induction l with
  | nil => rfl
  | cons i l ih => simp [ih]

/-- A list split by a test has the pairs of its two parts. -/
theorem storedPairs_filter_add (p : StoredReq → Bool) (l : List StoredReq) :
    storedPairs (l.filter p) + storedPairs (l.filter fun r => !p r) = storedPairs l := by
  rw [← storedPairs_append]
  exact Multiset.coe_eq_coe.2 ((List.filter_append_perm p l).map _)

@[simp] theorem returnPairs_nil : returnPairs [] = 0 := rfl

@[simp] theorem returnPairs_cons (c : Completion) (l : List Completion) :
    returnPairs (c :: l) = {completionPair c} + returnPairs l := rfl

@[simp] theorem returnPairs_append (a b : List Completion) : returnPairs (a ++ b) = returnPairs a + returnPairs b := by
  simp [returnPairs]

/-- Bare completions that answer stored requests carry the requests' pairs. -/
@[simp] theorem returnPairs_answers (status : CplStatus) (l : List StoredReq) :
    returnPairs (l.map fun r => bareCompletion r.source (wireTag r.tag) status) = storedPairs l := by
  simp only [returnPairs, storedPairs, List.map_map]
  rfl

@[simp] theorem entryPairs_free : Entry.free.pairs = 0 := rfl

@[simp] theorem entryPairs_orphan (e : Entry) : e.orphan.pairs = 0 := by cases e <;> rfl

/-- The ABORTED completions of the ACTIVE entries carry the entries' pairs (R136, R138). -/
theorem returnPairs_activeAborts (s : State) : returnPairs s.activeAborts = ∑ d, (s.entry d).pairs := by
  rw [Fin.sum_univ_def, State.activeAborts]
  induction List.finRange 64 with
  | nil => rfl
  | cons d l ih =>
    rw [List.map_cons, List.sum_cons, ← ih]
    cases h : s.entry d <;> simp [h, Entry.pairs, bareCompletion, completionPair]

/-- TRAFFIC_RESET's order of the store has the pairs of every hold list and dispatch queue (R83). -/
theorem storedPairs_storedInOrder (s : State) :
    storedPairs s.storedInOrder = (∑ src, storedPairs (s.hold src)) + ∑ c, storedPairs (s.queue c) := by
  simp [State.storedInOrder, storedPairs_flatMap, Fin.sum_univ_def]

/-! ### The laws in terms of the pairs -/

theorem card_storedPairs (l : List StoredReq) : (storedPairs l).card = l.length := by simp [storedPairs]

theorem card_returnPairs (l : List Completion) : (returnPairs l).card = l.length := by simp [returnPairs]

theorem card_entryPairs (e : Entry) : e.pairs.card = if e.isActive then 1 else 0 := by cases e <;> rfl

theorem card_livePairs (s : State) : s.livePairs.card = s.occupancy + s.activeCount + s.returnQ.length := by
  simp [State.livePairs, State.occupancy, State.activeCount, countFin, sumFin_eq_sum, card_storedPairs, card_returnPairs,
    card_entryPairs]

theorem count_storedPairs (src : Fin 32) (tag : Fin 16) (l : List StoredReq) :
    (storedPairs l).count (src, wireTag tag) = l.countP fun r => r.source = src && r.tag = tag := by
  rw [storedPairs, Multiset.count, Multiset.coe_countP, List.countP_map]
  refine List.countP_congr fun r _ => ?_
  simp [StoredReq.pair, wireTag_inj, eq_comm (a := src), eq_comm (a := tag)]

theorem count_returnPairs (src : Fin 32) (tag : Fin 16) (l : List Completion) :
    (returnPairs l).count (src, wireTag tag) = l.countP fun c => c.source = src && c.tag = wireTag tag := by
  rw [returnPairs, Multiset.count, Multiset.coe_countP, List.countP_map]
  refine List.countP_congr fun c _ => ?_
  simp [completionPair, eq_comm (a := src), eq_comm (a := wireTag tag)]

theorem count_entryPairs (src : Fin 32) (tag : Fin 16) (e : Entry) :
    e.pairs.count (src, wireTag tag) = if e.answersFor src tag then 1 else 0 := by
  cases e with
  | free => rfl
  | orphaned r => rfl
  | active r =>
    simp [Entry.pairs, Entry.answersFor, Multiset.count_singleton, wireTag_inj, eq_comm (a := src), eq_comm (a := tag)]

theorem count_livePairs (s : State) (src : Fin 32) (tag : Fin 16) :
    s.livePairs.count (src, wireTag tag) = s.liveCount src tag := by
  simp [State.livePairs, State.liveCount, countFin, sumFin_eq_sum, Multiset.count_sum', count_storedPairs, count_returnPairs,
    count_entryPairs]

theorem ticketLaw_iff (s : State) : s.TicketLaw ↔ s.tickets = s.livePairs.card ∧ s.tickets ≤ 160 := by
  rw [card_livePairs]

theorem liveLaw_iff (s : State) :
    s.LiveLaw ↔ ∀ src tag, s.livePairs.count (src, wireTag tag) = if s.live src tag = true then 1 else 0 := by
  simp only [count_livePairs]

/-! ### What each operation does to the pairs -/

/-- The pairs are read from the hold lists, the dispatch queues, the Outstanding Table and the Return Queue alone. -/
theorem livePairs_congr {s t : State} (hh : ∀ i, t.hold i = s.hold i) (hq : ∀ c, t.queue c = s.queue c)
    (he : ∀ d, t.entry d = s.entry d) (hr : t.returnQ = s.returnQ) : t.livePairs = s.livePairs := by
  simp only [State.livePairs, hh, hq, he, hr]

/-- A sum after one of its terms has changed. -/
theorem sum_after_change {n : Nat} {f g : Fin n → Multiset (Fin 32 × Fin 64)} (j : Fin n) (h : ∀ i, i ≠ j → g i = f i) :
    ∑ i, g i + f j = ∑ i, f i + g j := by
  have hs : ∑ i ∈ Finset.univ.erase j, g i = ∑ i ∈ Finset.univ.erase j, f i :=
    Finset.sum_congr rfl fun i hi => h i (Finset.ne_of_mem_erase hi)
  rw [← Finset.sum_erase_add _ g (Finset.mem_univ j), ← Finset.sum_erase_add _ f (Finset.mem_univ j), hs, add_right_comm]

namespace State

theorem livePairs_setHold (s : State) (src : Fin 32) (l : List StoredReq) :
    (s.setHold src l).livePairs + storedPairs (s.hold src) = s.livePairs + storedPairs l := by
  have h := sum_after_change (f := fun i => storedPairs (s.hold i)) (g := fun i => storedPairs ((s.setHold src l).hold i)) src
    fun i hi => by simp [hi]
  rw [setHold_hold_self] at h
  calc (s.setHold src l).livePairs + storedPairs (s.hold src)
      = (∑ i, storedPairs ((s.setHold src l).hold i) + storedPairs (s.hold src))
          + (∑ c, storedPairs (s.queue c) + ∑ d, (s.entry d).pairs + returnPairs s.returnQ) := by
        simp only [livePairs, setHold_queue, setHold_entry, setHold_returnQ]; abel
    _ = s.livePairs + storedPairs l := by rw [h, livePairs]; abel

theorem livePairs_setQueue (s : State) (c : Fin 4) (l : List StoredReq) :
    (s.setQueue c l).livePairs + storedPairs (s.queue c) = s.livePairs + storedPairs l := by
  have h := sum_after_change (f := fun i => storedPairs (s.queue i)) (g := fun i => storedPairs ((s.setQueue c l).queue i)) c
    fun i hi => by simp [hi]
  rw [setQueue_queue_self] at h
  calc (s.setQueue c l).livePairs + storedPairs (s.queue c)
      = (∑ i, storedPairs ((s.setQueue c l).queue i) + storedPairs (s.queue c))
          + (∑ i, storedPairs (s.hold i) + ∑ d, (s.entry d).pairs + returnPairs s.returnQ) := by
        simp only [livePairs, setQueue_hold, setQueue_entry, setQueue_returnQ]; abel
    _ = s.livePairs + storedPairs l := by rw [h, livePairs]; abel

theorem livePairs_setEntry (s : State) (d : Fin 64) (e : Entry) :
    (s.setEntry d e).livePairs + (s.entry d).pairs = s.livePairs + e.pairs := by
  have h := sum_after_change (f := fun i => (s.entry i).pairs) (g := fun i => ((s.setEntry d e).entry i).pairs) d
    fun i hi => by simp [hi]
  rw [setEntry_entry_self] at h
  calc (s.setEntry d e).livePairs + (s.entry d).pairs
      = (∑ i, ((s.setEntry d e).entry i).pairs + (s.entry d).pairs)
          + (∑ i, storedPairs (s.hold i) + ∑ c, storedPairs (s.queue c) + returnPairs s.returnQ) := by
        simp only [livePairs, setEntry_hold, setEntry_queue, setEntry_returnQ]; abel
    _ = s.livePairs + e.pairs := by rw [h, livePairs]; abel

/-- Requests taken off the front of a hold list leave the pairs. -/
theorem livePairs_of_hold {s : State} {src : Fin 32} {front rest : List StoredReq} (h : s.hold src = front ++ rest) :
    s.livePairs = (s.setHold src rest).livePairs + storedPairs front := by
  have e := livePairs_setHold s src rest
  rw [h, storedPairs_append, ← add_assoc] at e
  exact (add_right_cancel e).symm

theorem livePairs_of_hold_cons {s : State} {src : Fin 32} {r : StoredReq} {rest : List StoredReq} (h : s.hold src = r :: rest) :
    s.livePairs = (s.setHold src rest).livePairs + {r.pair} :=
  livePairs_of_hold (front := [r]) h

theorem livePairs_empty_hold (s : State) (src : Fin 32) :
    s.livePairs = (s.setHold src []).livePairs + storedPairs (s.hold src) :=
  livePairs_of_hold (List.append_nil _).symm

/-- A request that joins the tail of a hold list joins the pairs. -/
theorem livePairs_hold_append (s : State) (src : Fin 32) (r : StoredReq) :
    (s.setHold src (s.hold src ++ [r])).livePairs = s.livePairs + {r.pair} := by
  have e := livePairs_setHold s src (s.hold src ++ [r])
  rw [storedPairs_append, add_comm (storedPairs (s.hold src)), ← add_assoc] at e
  exact add_right_cancel e

theorem livePairs_of_queue_cons {s : State} {c : Fin 4} {r : StoredReq} {rest : List StoredReq} (h : s.queue c = r :: rest) :
    s.livePairs = (s.setQueue c rest).livePairs + {r.pair} := by
  have e := livePairs_setQueue s c rest
  rw [h, storedPairs_cons, ← add_assoc] at e
  exact (add_right_cancel e).symm

@[simp] theorem livePairs_joinReturn (s : State) (c : Completion) :
    (s.joinReturn c).livePairs = s.livePairs + {completionPair c} := by
  simp only [livePairs, joinReturn_hold, joinReturn_queue, joinReturn_entry, joinReturn_returnQ, returnPairs_append, ← add_assoc]
  rfl

@[simp] theorem livePairs_raise (s : State) (e : Event) : (s.raise e).livePairs = s.livePairs :=
  livePairs_congr (by simp) (by simp) (by simp) (by simp)

@[simp] theorem livePairs_countSource (s : State) (src : Fin 32) (k : SourceCounter) (n : Nat) :
    (s.countSource src k n).livePairs = s.livePairs :=
  livePairs_congr (by simp) (by simp) (by simp) (by simp)

@[simp] theorem livePairs_setBalance (s : State) (src : Fin 32) (b : Nat) : (s.setBalance src b).livePairs = s.livePairs := rfl

@[simp] theorem livePairs_enqueue (s : State) (src : Fin 32) (r : StoredReq) :
    (s.enqueue src r).livePairs = s.livePairs + {r.pair} := by
  have e := livePairs_setQueue s (s.contract src).settings.cls (s.queue (s.contract src).settings.cls ++ [r])
  rw [storedPairs_append, add_comm (storedPairs (s.queue _)), ← add_assoc] at e
  exact add_right_cancel e

@[simp] theorem livePairs_queueCharged (s : State) (src : Fin 32) (r : StoredReq) :
    (s.queueCharged src r).livePairs = s.livePairs + {r.pair} := by
  simp [queueCharged]

@[simp] theorem livePairs_refuse (s : State) (src : Fin 32) (tag : Fin 16) (reason : Reason) :
    (s.refuse src tag reason).livePairs = s.livePairs + {(src, wireTag tag)} := by
  simp [refuse, completionPair, bareCompletion]

@[simp] theorem livePairs_refuseList (s : State) (reason : Reason) (l : List StoredReq) :
    (s.refuseList reason l).livePairs = s.livePairs + storedPairs l := by
  induction l generalizing s with
  | nil => simp [refuseList]
  | cons r rest ih =>
    rw [refuseList, ih, livePairs_refuse, storedPairs_cons, add_assoc]
    rfl

@[simp] theorem livePairs_releaseList (s : State) (src : Fin 32) (l : List StoredReq) :
    (s.releaseList src l).livePairs = s.livePairs + storedPairs l := by
  induction l generalizing s with
  | nil => simp [releaseList]
  | cons r rest ih => simp [releaseList, ih, add_assoc]

end State
end Sys2Proof.Machine
end

section
/-! What a command does to the live requests: nothing, one more at a take, one less at a hand-over, or none left (R5, R13, R18, R21). Every
other command moves requests between the store, the Outstanding Table and the Return Queue, with their tickets and pairs. -/

namespace Sys2Proof.Machine

/-! ### Operations that keep tickets, Live Tag Map and live requests -/

/-- The tickets in use, the Live Tag Map and the live requests are the same. -/
structure State.SameTraffic (s t : State) : Prop where
  tickets : t.tickets = s.tickets
  liveTags : t.liveTags = s.liveTags
  livePairs : t.livePairs = s.livePairs

namespace State.SameTraffic

theorem refl (s : State) : s.SameTraffic s := ⟨rfl, rfl, rfl⟩

theorem trans {s t u : State} (h : s.SameTraffic t) (h' : t.SameTraffic u) : s.SameTraffic u :=
  ⟨h'.tickets.trans h.tickets, h'.liveTags.trans h.liveTags, h'.livePairs.trans h.livePairs⟩

/-- Where the fields that hold requests stand, so do the live requests. -/
theorem of_frame {s t : State} (h : t.tickets = s.tickets ∧ t.liveTags = s.liveTags ∧ (∀ i, t.hold i = s.hold i) ∧
    (∀ c, t.queue c = s.queue c) ∧ (∀ d, t.entry d = s.entry d) ∧ t.returnQ = s.returnQ) : s.SameTraffic t := by
  obtain ⟨ht, hl, hh, hq, he, hr⟩ := h
  exact ⟨ht, hl, livePairs_congr hh hq he hr⟩

end State.SameTraffic

open State (SameTraffic)

theorem applyStaged_sameTraffic (s : State) (src : Fin 32) : s.SameTraffic (s.applyStaged src) := .of_frame (by simp)

theorem raise_sameTraffic (s : State) (e : Event) : s.SameTraffic (s.raise e) := .of_frame (by simp)

/-- The whole of a hold list is answered: the requests pass from the list to the Return Queue (R43, R96). -/
theorem refuseHold_sameTraffic (s : State) (src : Fin 32) (reason : Reason) :
    s.SameTraffic ((s.setHold src []).refuseList reason (s.hold src)) where
  tickets := by simp
  liveTags := by simp
  livePairs := by rw [State.livePairs_refuseList, ← State.livePairs_empty_hold]

/-- The drain passes requests from the hold list to the dispatch queue (R70). -/
theorem drainFuel_sameTraffic (src : Fin 32) (n : Nat) (s : State) : s.SameTraffic (State.drainFuel src n s) := by
  induction n generalizing s with
  | zero => exact .refl s
  | succ n ih =>
    unfold State.drainFuel
    split
    · exact .refl s
    · rename_i r rest hcons
      split
      · refine .trans ⟨by simp, by simp, ?_⟩ (ih _)
        rw [State.livePairs_queueCharged, ← State.livePairs_of_hold_cons hcons]
      · exact .refl s

/-- An expired head passes to the Return Queue or to the dispatch queue (R74, R75). -/
theorem expireHead_sameTraffic {s : State} {src : Fin 32} {r : StoredReq} {rest : List StoredReq} (h : s.hold src = r :: rest) :
    s.SameTraffic (s.expireHead src r rest) := by
  refine ⟨by simp, by simp, ?_⟩
  rw [State.livePairs_of_hold_cons h]
  unfold State.expireHead
  split
  · rw [State.livePairs_refuse, State.livePairs_raise]; rfl
  · rw [State.livePairs_countSource, State.livePairs_enqueue, State.livePairs_raise]

theorem cascadeFuel_sameTraffic (src : Fin 32) (n : Nat) (s : State) : s.SameTraffic (State.cascadeFuel src n s) := by
  induction n generalizing s with
  | zero => exact .refl s
  | succ n ih =>
    unfold State.cascadeFuel
    split
    · exact .refl s
    · split
      · exact ((expireHead_sameTraffic ‹_›).trans (drainFuel_sameTraffic src _ _)).trans (ih _)
      · exact .refl s

theorem drainAndCheck_sameTraffic (s : State) (src : Fin 32) : s.SameTraffic (s.drainAndCheck src) :=
  (drainFuel_sameTraffic src _ s).trans (cascadeFuel_sameTraffic src _ _)

theorem takeBoundary_sameTraffic (s : State) (src : Fin 32) : s.SameTraffic (s.takeBoundary src) :=
  .trans (.of_frame (by simp)) (drainAndCheck_sameTraffic _ src)

theorem takeWindowEnd_sameTraffic (s : State) (src : Fin 32) : s.SameTraffic (s.takeWindowEnd src) := by
  have h1 : s.SameTraffic (((s.stopTimer src).applyStaged src).setBalance src 0) := .of_frame (by simp)
  have h2 := refuseHold_sameTraffic (((s.stopTimer src).applyStaged src).setBalance src 0) src .spent
  exact (h1.trans h2).trans (.of_frame (by simp [State.takeWindowEnd]))

theorem countEdge_sameTraffic (s : State) (n : Fin 4) (src : Fin 32) : s.SameTraffic (s.countEdge n src) := by
  simp only [State.countEdge]
  split
  · split
    · exact .trans (.of_frame (by simp)) (takeBoundary_sameTraffic _ src)
    · exact .of_frame (by simp)
  · exact .refl s

theorem countEdges_sameTraffic (s : State) (n : Fin 4) (l : List (Fin 32)) : s.SameTraffic (s.countEdges n l) := by
  induction l generalizing s with
  | nil => exact .refl s
  | cons src rest ih => exact (countEdge_sameTraffic s n src).trans (ih _)

theorem settle_sameTraffic (s : State) (n : Fin 4) (level : Level) : s.SameTraffic (s.settle n level) := by
  simp only [State.settle]
  split
  · exact .trans (.of_frame (by simp)) (countEdges_sameTraffic _ n _)
  · exact .of_frame (by simp)

theorem pinChange_sameTraffic (s : State) (n : Fin 4) (level : Level) : s.SameTraffic (s.pinChange n level) := by
  simp only [State.pinChange]
  split
  · exact .of_frame (by simp)
  · split
    · exact .trans (.of_frame (by simp)) (settle_sameTraffic _ n level)
    · exact .of_frame (by simp)

theorem writeLine_sameTraffic (s : State) (n : Fin 4) (edge : EdgeSetting) (filter : Nat) :
    s.SameTraffic (s.writeLine n edge filter) := by
  simp only [State.writeLine]
  split
  · exact .of_frame (by simp)
  · split
    · exact .trans (.of_frame (by simp)) (settle_sameTraffic _ n _)
    · exact .of_frame (by simp)

/-! ### Source commands and TRAFFIC_RESET -/

theorem enableSource_sameTraffic (s : State) (src : Fin 32) : s.SameTraffic (s.enableSource src) :=
  .of_frame (by simp [State.enableSource])

theorem unbarSource_sameTraffic (s : State) (src : Fin 32) : s.SameTraffic (s.unbarSource src) :=
  .of_frame (by simp [State.unbarSource])

theorem armSource_sameTraffic (s : State) (src : Fin 32) : s.SameTraffic (s.armSource src) :=
  .trans (.of_frame (by simp)) (drainAndCheck_sameTraffic _ src)

/-- A released hold list passes to the dispatch queue (R41). -/
theorem releaseHold_sameTraffic (s : State) (src : Fin 32) : s.SameTraffic ((s.setHold src []).releaseList src (s.hold src)) where
  tickets := by rw [(releaseList_spec _ _ _).1]; rfl
  liveTags := by rw [(releaseList_spec _ _ _).1]; rfl
  livePairs := by rw [State.livePairs_releaseList, ← State.livePairs_empty_hold]

theorem disableSource_sameTraffic (s : State) (src : Fin 32) : s.SameTraffic (s.disableSource src) := by
  unfold State.disableSource
  split
  · exact .trans (.of_frame (by simp)) (releaseHold_sameTraffic (((s.setState src .unpaced).stopTimer src).applyStaged src) src)
  · exact .of_frame (by simp)

/-- The requests of one source pass from a dispatch queue to the Return Queue (R43, R108). -/
theorem refuseQueued_sameTraffic (s : State) (src : Fin 32) (c : Fin 4) (reason : Reason) :
    s.SameTraffic ((s.setQueue c ((s.queue c).filter fun r => r.source ≠ src)).refuseList reason
      ((s.queue c).filter fun r => r.source = src)) where
  tickets := by simp
  liveTags := by simp
  livePairs := by
    have hq := State.livePairs_setQueue s c ((s.queue c).filter fun r => r.source ≠ src)
    have hsplit := storedPairs_filter_add (fun r => r.source = src) (s.queue c)
    simp only [← decide_not] at hsplit
    rw [← hsplit, ← add_assoc] at hq
    rw [State.livePairs_refuseList]
    exact add_right_cancel hq

theorem barSource_sameTraffic (s : State) (src : Fin 32) : s.SameTraffic (s.barSource src) := by
  have h1 : s.SameTraffic (((s.setState src .barred).stopTimer src).applyStaged src) := .of_frame (by simp)
  exact (h1.trans (refuseHold_sameTraffic _ src .barred)).trans (refuseQueued_sameTraffic _ src _ .barred)

/-- TRAFFIC_RESET passes every stored request and every ACTIVE entry's to the Return Queue (R83, R138). -/
theorem abortTraffic_sameTraffic (s : State) : s.SameTraffic s.abortTraffic where
  tickets := rfl
  liveTags := rfl
  livePairs := by
    have hh : ∀ i, s.abortTraffic.hold i = [] := fun i => by simp [State.hold, State.abortTraffic]
    have hq : ∀ c, s.abortTraffic.queue c = [] := fun c => by simp [State.queue, State.abortTraffic]
    have he : ∀ d, (s.abortTraffic.entry d).pairs = 0 := fun d => by simp [State.entry, State.abortTraffic]
    have hr : s.abortTraffic.returnQ = (s.abortList s.storedInOrder).returnQ ++ s.activeAborts := rfl
    simp only [State.livePairs, hh, hq, he, hr, storedPairs_nil, Finset.sum_const_zero, zero_add, State.abortList_returnQ,
      returnPairs_append, returnPairs_answers, storedPairs_storedInOrder, returnPairs_activeAborts]
    abel

theorem restartContract_sameTraffic (s : State) (src : Fin 32) : s.SameTraffic (s.restartContract src) := by
  unfold State.restartContract
  split
  · exact .of_frame (by simp)
  · exact .refl s

theorem restartContracts_sameTraffic (s : State) (l : List (Fin 32)) : s.SameTraffic (s.restartContracts l) := by
  induction l generalizing s with
  | nil => exact .refl s
  | cons src rest ih => exact (restartContract_sameTraffic s src).trans (ih _)

/-! ### Dispatch and completions -/

/-- A grant passes the head of a dispatch queue to a FREE entry (R118). -/
theorem grantHead_sameTraffic {s : State} {c : Fin 4} {r : StoredReq} {rest : List StoredReq} {d : Fin 64}
    (hq : s.queue c = r :: rest) (hd : s.entry d = .free) : s.SameTraffic (s.grantHead c r rest d) := by
  refine ⟨rfl, rfl, ?_⟩
  have he := State.livePairs_setEntry (s.setQueue c rest) d (.active (s.entryFor c r))
  rw [State.setQueue_entry, hd] at he
  rw [State.livePairs_of_queue_cons hq]
  exact (add_zero _).symm.trans he

/-- A completion takes an ACTIVE entry's request to the Return Queue, whatever becomes of the entry (R129, R134). -/
theorem livePairs_answerActive {s : State} {d : Fin 64} {r : Outstanding} {e : Entry} (h : s.entry d = .active r) (he : e.pairs = 0)
    (status : CplStatus) (data : List Beat) :
    ((s.joinReturn ⟨r.source, wireTag r.tag, status, data⟩).setEntry d e).livePairs = s.livePairs := by
  have hs := State.livePairs_setEntry (s.joinReturn ⟨r.source, wireTag r.tag, status, data⟩) d e
  rw [State.joinReturn_entry, h, he, add_zero, State.livePairs_joinReturn] at hs
  exact add_right_cancel hs

theorem measure_sameTraffic (s : State) (r : Outstanding) (isError : Bool) : s.SameTraffic (s.measure r isError) := by
  cases isError <;> exact .of_frame (by simp [State.measure, State.offerResidence])

theorem completeActive_sameTraffic {s : State} {d : Fin 64} {r : Outstanding} (h : s.entry d = .active r) (c : DCompletion) :
    s.SameTraffic (s.completeActive d r c) := by
  have h1 : s.SameTraffic ((s.joinReturn ⟨r.source, wireTag r.tag, (answerOf r c).1, (answerOf r c).2⟩).setEntry d .free) :=
    ⟨rfl, rfl, livePairs_answerActive h rfl _ _⟩
  exact (h1.trans (.of_frame (by simp [State.setEntry_entry]))).trans (measure_sameTraffic _ r _)

/-- An ORPHANED entry has no live request to lose (R132). -/
theorem completeLate_sameTraffic {s : State} {d : Fin 64} {r : Outstanding} (h : s.entry d = .orphaned r) :
    s.SameTraffic (s.completeLate d r) := by
  have hs := State.livePairs_setEntry s d .free
  rw [h, Entry.pairs, Entry.pairs] at hs
  have h1 : s.SameTraffic (s.setEntry d .free) := ⟨rfl, rfl, add_right_cancel hs⟩
  exact h1.trans (.of_frame (by simp [State.completeLate, State.setEntry_entry]))

theorem matchCompletion_sameTraffic (s : State) (c : DCompletion) : s.SameTraffic (s.matchCompletion c) := by
  unfold State.matchCompletion
  split
  · exact completeActive_sameTraffic ‹_› c
  · exact completeLate_sameTraffic ‹_›
  · exact .of_frame (by simp [State.completeStray])

theorem timeOut_sameTraffic {s : State} {d : Fin 64} {r : Outstanding} (h : s.entry d = .active r) : s.SameTraffic (s.timeOut d r) := by
  have h1 : s.SameTraffic ((s.joinReturn (bareCompletion r.source (wireTag r.tag) .timeout)).setEntry d
      (.orphaned { r with due := none })) := ⟨rfl, rfl, livePairs_answerActive h rfl _ _⟩
  exact h1.trans (.of_frame (by simp [State.timeOut]))

/-- DOWNSTREAM_DOWN passes the ACTIVE entries' requests to the Return Queue (R136). -/
theorem dropDownstream_sameTraffic (s : State) : s.SameTraffic s.dropDownstream where
  tickets := rfl
  liveTags := rfl
  livePairs := by
    have he : ∀ d, (s.dropDownstream.entry d).pairs = 0 := fun d => by simp [State.entry, State.dropDownstream, Entry.pairs]
    have hh : ∀ i, s.dropDownstream.hold i = s.hold i := fun _ => rfl
    have hq : ∀ c, s.dropDownstream.queue c = s.queue c := fun _ => rfl
    have hr : s.dropDownstream.returnQ = s.returnQ ++ s.activeAborts := rfl
    simp only [State.livePairs, he, hh, hq, hr, Finset.sum_const_zero, returnPairs_append, returnPairs_activeAborts]
    abel

theorem loadCredits_sameTraffic (s : State) : s.SameTraffic s.loadCredits := ⟨rfl, rfl, rfl⟩

end Sys2Proof.Machine
end

section
/-! The step lemmas of R6 and R11: what every command does to the live requests, and the two laws from that. -/

namespace Sys2Proof.Machine

open State (SameTraffic)

/-! ### Management commands -/

/-- A management command keeps the live requests where its effect does. -/
theorem manage_sameTraffic {s t : State} {opcode : Byte} {a : Answer} (ha : s.SameTraffic a.state)
    (h : s.manage opcode a = .next t) : s.SameTraffic t := by
  by_cases hl : s.listening
  · rw [manage_listening hl] at h
    cases h
    exact ha.trans ⟨rfl, rfl, rfl⟩
  · rw [manage_not_listening hl] at h
    cases h
    exact .refl s

theorem judged_sameTraffic {s : State} {f : Frame} {a : Answer} (ha : s.SameTraffic a.state) :
    s.SameTraffic (judged f s a).state := by
  unfold judged
  split
  · exact .refl s
  · exact ha

theorem answerSource_sameTraffic {s : State} {eff : State → Fin 32 → State} (he : ∀ src, s.SameTraffic (eff s src))
    (cmd : SourceCmd) (f : Frame) : s.SameTraffic (answerSource cmd eff f s).state := by
  unfold answerSource
  repeat' split
  any_goals exact .refl s
  exact he _

theorem answerLineWrite_sameTraffic (s : State) (f : Frame) : s.SameTraffic (answerLineWrite f s).state := by
  unfold answerLineWrite
  repeat' split
  any_goals exact .refl s
  exact writeLine_sameTraffic s _ _ _

theorem resetTraffic_sameTraffic (s : State) : s.SameTraffic s.resetTraffic := by
  unfold State.resetTraffic
  exact (abortTraffic_sameTraffic s).trans (restartContracts_sameTraffic _ _)

theorem answerTrafficReset_sameTraffic (s : State) (f : Frame) : s.SameTraffic (answerTrafficReset f s).state := by
  unfold answerTrafficReset
  split
  · exact .refl s
  · dsimp only
    exact resetTraffic_sameTraffic s

theorem answerCounters_sameTraffic (s : State) (f : Frame) {after : State → Group → State} (h : ∀ g, s.SameTraffic (after s g)) :
    s.SameTraffic (answerCounters after f s).state := by
  unfold answerCounters
  repeat' split
  any_goals exact .refl s
  exact h _

theorem answerContractWrite_sameTraffic (s : State) (f : Frame) : s.SameTraffic (answerContractWrite f s).state := by
  unfold answerContractWrite
  repeat' split
  any_goals exact .refl s
  · exact .of_frame (by simp [State.stageWrite])
  · exact .of_frame (by simp [State.applyWrite])

theorem writeClass_sameTraffic (s : State) (c : Fin 4) (credit limit : Nat) (edges : Vector Nat 7) :
    s.SameTraffic (s.writeClass c credit limit edges) := by
  simp only [State.writeClass]
  split <;> exact .of_frame (by simp)

theorem answerClassWrite_sameTraffic (s : State) (f : Frame) : s.SameTraffic (answerClassWrite f s).state := by
  unfold answerClassWrite
  repeat' split
  any_goals exact .refl s
  all_goals exact writeClass_sameTraffic s _ _ _ _

theorem answerStatus_sameTraffic (s : State) (f : Frame) : s.SameTraffic (answerStatus f s).state := by
  unfold answerStatus
  split <;> exact ⟨rfl, rfl, rfl⟩

theorem answerGlobalWrite_sameTraffic (s : State) (f : Frame) : s.SameTraffic (answerGlobalWrite f s).state := by
  unfold answerGlobalWrite
  repeat' split
  all_goals exact ⟨rfl, rfl, rfl⟩

theorem answerRegionWrite_sameTraffic (s : State) (f : Frame) : s.SameTraffic (answerRegionWrite f s).state := by
  unfold answerRegionWrite
  repeat' split
  all_goals exact ⟨rfl, rfl, rfl⟩

theorem answerEventRelease_sameTraffic (s : State) (f : Frame) : s.SameTraffic (answerEventRelease f s).state := by
  unfold answerEventRelease
  repeat' split
  all_goals exact ⟨rfl, rfl, rfl⟩

/-! The commands that only read leave the state as it is. -/

theorem answerIdentify_state (f : Frame) (s : State) : (answerIdentify f s).state = s := by
  unfold answerIdentify; split <;> rfl

theorem answerTimeRead_state (f : Frame) (s : State) : (answerTimeRead f s).state = s := by
  unfold answerTimeRead; split <;> rfl

theorem answerGlobalRead_state (f : Frame) (s : State) : (answerGlobalRead f s).state = s := by
  unfold answerGlobalRead; split <;> rfl

theorem answerEventRead_state (f : Frame) (s : State) : (answerEventRead f s).state = s := by
  unfold answerEventRead; repeat' split
  all_goals rfl

theorem answerContractRead_state (f : Frame) (s : State) : (answerContractRead f s).state = s := by
  unfold answerContractRead; repeat' split
  all_goals rfl

theorem answerHoldRead_state (f : Frame) (s : State) : (answerHoldRead f s).state = s := by
  unfold answerHoldRead; repeat' split
  all_goals rfl

theorem answerRegionRead_state (f : Frame) (s : State) : (answerRegionRead f s).state = s := by
  unfold answerRegionRead; repeat' split
  all_goals rfl

theorem answerClassRead_state (f : Frame) (s : State) : (answerClassRead f s).state = s := by
  unfold answerClassRead; repeat' split
  all_goals rfl

theorem answerLineRead_state (f : Frame) (s : State) : (answerLineRead f s).state = s := by
  unfold answerLineRead; repeat' split
  all_goals rfl

/-- A command that only reads keeps the live requests. -/
theorem read_sameTraffic {s t : State} {opcode : Byte} {f : Frame} {a : Answer} (ha : a.state = s)
    (h : s.manage opcode (judged f s a) = .next t) : s.SameTraffic t :=
  manage_sameTraffic (judged_sameTraffic (ha ▸ .refl s)) h

/-- The commands of the management port keep the live requests. -/
theorem exec_management_sameTraffic {c : Instr} {s t : State} (hc : c.frame?.isSome = true) (h : exec c s = .next t) :
    s.SameTraffic t := by
  cases c with
  | enable f => exact manage_sameTraffic (judged_sameTraffic (answerSource_sameTraffic (enableSource_sameTraffic s) _ f)) h
  | disable f => exact manage_sameTraffic (judged_sameTraffic (answerSource_sameTraffic (disableSource_sameTraffic s) _ f)) h
  | bar f => exact manage_sameTraffic (judged_sameTraffic (answerSource_sameTraffic (barSource_sameTraffic s) _ f)) h
  | unbar f => exact manage_sameTraffic (judged_sameTraffic (answerSource_sameTraffic (unbarSource_sameTraffic s) _ f)) h
  | arm f => exact manage_sameTraffic (judged_sameTraffic (answerSource_sameTraffic (armSource_sameTraffic s) _ f)) h
  | lineWrite f => exact manage_sameTraffic (judged_sameTraffic (answerLineWrite_sameTraffic s f)) h
  | trafficReset f => exact manage_sameTraffic (judged_sameTraffic (answerTrafficReset_sameTraffic s f)) h
  | contractWrite f => exact manage_sameTraffic (judged_sameTraffic (answerContractWrite_sameTraffic s f)) h
  | classWrite f => exact manage_sameTraffic (judged_sameTraffic (answerClassWrite_sameTraffic s f)) h
  | countersRead f => exact manage_sameTraffic (judged_sameTraffic (answerCounters_sameTraffic s f fun _ => .refl s)) h
  | countersReadClear f =>
    exact manage_sameTraffic (judged_sameTraffic (answerCounters_sameTraffic s f fun g => by cases g <;> exact ⟨rfl, rfl, rfl⟩)) h
  | unknownOpcode o f => exact manage_sameTraffic (.refl s) h
  | status f => exact manage_sameTraffic (judged_sameTraffic (answerStatus_sameTraffic s f)) h
  | globalWrite f => exact manage_sameTraffic (judged_sameTraffic (answerGlobalWrite_sameTraffic s f)) h
  | regionWrite f => exact manage_sameTraffic (judged_sameTraffic (answerRegionWrite_sameTraffic s f)) h
  | eventRelease f => exact manage_sameTraffic (judged_sameTraffic (answerEventRelease_sameTraffic s f)) h
  | identify f => exact read_sameTraffic (answerIdentify_state f s) h
  | timeRead f => exact read_sameTraffic (answerTimeRead_state f s) h
  | globalRead f => exact read_sameTraffic (answerGlobalRead_state f s) h
  | eventRead f => exact read_sameTraffic (answerEventRead_state f s) h
  | contractRead f => exact read_sameTraffic (answerContractRead_state f s) h
  | holdRead f => exact read_sameTraffic (answerHoldRead_state f s) h
  | regionRead f => exact read_sameTraffic (answerRegionRead_state f s) h
  | classRead f => exact read_sameTraffic (answerClassRead_state f s) h
  | lineRead f => exact read_sameTraffic (answerLineRead_state f s) h
  | _ => cases hc

/-! ### The part's own events -/

theorem execResponseTimeout_sameTraffic {s t : State} {d : Fin 64} (h : execResponseTimeout d s = .next t) : s.SameTraffic t := by
  unfold execResponseTimeout at h
  split at h
  · split at h <;> cases h
    · exact timeOut_sameTraffic ‹_›
    · exact .refl s
    · exact .refl s
  · cases h; exact .refl s

theorem execGrant_sameTraffic {s t : State} (h : execGrant s = .next t) : s.SameTraffic t := by
  unfold execGrant at h
  split at h
  · rename_i c d _ hd
    have hfree : s.entry d = .free := by
      have := List.find?_some hd
      cases he : s.entry d <;> simp_all [Entry.isFree]
    split at h <;> cases h
    · exact grantHead_sameTraffic ‹_› hfree
    · exact .refl s
  · cases h; exact .refl s

theorem execTransitionSettles_sameTraffic {s t : State} {n : Fin 4} (h : execTransitionSettles n s = .next t) : s.SameTraffic t := by
  unfold execTransitionSettles at h
  split at h
  · split at h <;> cases h
    · exact settle_sameTraffic s n _
    · exact .refl s
  · cases h; exact .refl s

theorem execTriggerPinChange_sameTraffic {s t : State} {n : Fin 4} {level : Level} (h : execTriggerPinChange n level s = .next t) :
    s.SameTraffic t := by
  unfold execTriggerPinChange at h
  repeat' split at h
  all_goals cases h
  · exact ⟨rfl, rfl, rfl⟩
  · exact .refl s
  · exact pinChange_sameTraffic s n level

/-- An outcome chosen by a test keeps the live requests where both of its states do. -/
theorem ite_sameTraffic {p : Prop} [Decidable p] {s t u v : State}
    (h : (if p then (.next u : Host.Outcome State Fault Refusal) else .next v) = .next t) (hu : s.SameTraffic u)
    (hv : s.SameTraffic v) : s.SameTraffic t := by
  split at h <;> cases h
  · exact hu
  · exact hv

theorem execCommandCut_sameTraffic {s t : State} {bytes : List Byte} (h : execCommandCut bytes s = .next t) : s.SameTraffic t := by
  unfold execCommandCut at h
  split at h
  · cases h; exact .refl s
  · exact ite_sameTraffic h ⟨rfl, rfl, rfl⟩ (.refl s)

theorem execResponseCut_sameTraffic {s t : State} {n : Nat} (h : execResponseCut n s = .next t) : s.SameTraffic t := by
  unfold execResponseCut at h
  split at h
  · cases h; exact .refl s
  · exact ite_sameTraffic h ⟨rfl, rfl, rfl⟩ (.refl s)

/-! ### Resets, takes and hand-overs -/

/-- What a command can do to the live requests: keep them, leave none, add the pair of a request taken (R5, R11), or take out the pair of a
completion handed over (R13). -/
inductive State.TrafficStep (s t : State) : Prop
  | kept (h : s.SameTraffic t)
  | cleared (tickets : t.tickets = 0) (live : ∀ i j, t.live i j = false) (livePairs : t.livePairs = 0)
  | taken (src : Fin 32) (tag : Fin 64) (free : s.tickets < 160) (fresh : ∀ j, wireTag j = tag → s.live src j = false)
      (tickets : t.tickets = s.tickets + 1)
      (live : ∀ i j, t.live i j = (s.live i j || decide (i = src ∧ wireTag j = tag)))
      (livePairs : t.livePairs = s.livePairs + {(src, tag)})
  | handedOver (src : Fin 32) (tag : Fin 64) (tickets : t.tickets = s.tickets - 1)
      (live : ∀ i j, t.live i j = (s.live i j && !decide (i = src ∧ wireTag j = tag)))
      (livePairs : s.livePairs = t.livePairs + {(src, tag)})

open State (TrafficStep)

theorem live_congr {s t : State} (h : t.liveTags = s.liveTags) (i : Fin 32) (j : Fin 16) : t.live i j = s.live i j := by
  rw [State.live, State.live, h]

/-- A state with empty lists and tables has no live request. -/
theorem livePairs_eq_zero {s : State} (hh : ∀ i, s.hold i = []) (hq : ∀ c, s.queue c = []) (he : ∀ d, (s.entry d).pairs = 0)
    (hr : s.returnQ = []) : s.livePairs = 0 := by
  simp [State.livePairs, hh, hq, he, hr]

theorem execPowerOnReset_trafficStep {s t : State} {mcsN : Level} (h : execPowerOnReset mcsN s = .next t) : s.TrafficStep t := by
  cases h
  exact .cleared rfl (live_of_noLiveTags rfl) (livePairs_eq_zero (by simp) (by simp) (by simp) rfl)

theorem execResetNFall_trafficStep {s t : State} (h : execResetNFall s = .next t) : s.TrafficStep t := by
  unfold execResetNFall at h
  split at h <;> cases h
  · exact .kept (.refl s)
  · exact .cleared rfl (live_of_noLiveTags rfl) (livePairs_eq_zero (by simp) (by simp) (by simp) rfl)

theorem execUpstreamReset_trafficStep {s t : State} (h : execUpstreamReset s = .next t) : s.TrafficStep t := by
  unfold execUpstreamReset at h
  repeat' split at h
  all_goals cases h
  · exact .kept ⟨rfl, rfl, rfl⟩
  · exact .kept (.refl s)
  · exact .cleared (by simp [State.dropUpstream]) (live_of_noLiveTags (by simp [State.dropUpstream]))
      (livePairs_eq_zero (by simp) (by simp) (by simp) (by simp [State.dropUpstream]))

/-- A pair that becomes live (R11). -/
theorem live_setLive_true (s : State) (src : Fin 32) (tag : Fin 16) (i : Fin 32) (j : Fin 16) :
    (s.setLive src tag true).live i j = (s.live i j || decide (i = src ∧ wireTag j = wireTag tag)) := by
  simp only [State.setLive_live, wireTag_inj]
  split <;> simp_all

/-- A pair that is live no more (R13). -/
theorem live_setLive_false (s : State) (src : Fin 32) (tag : Fin 16) (i : Fin 32) (j : Fin 16) :
    (s.setLive src tag false).live i j = (s.live i j && !decide (i = src ∧ wireTag j = wireTag tag)) := by
  simp only [State.setLive_live, wireTag_inj]
  split
  · simp_all
  · rw [decide_eq_false ‹_›, Bool.not_false, Bool.and_true]

/-- A tag of the wire is above 15, or it is a live tag's (R7). -/
theorem liveTag_cases (tag : Fin 64) :
    (liveTag? tag = none ∧ ∀ j, wireTag j ≠ tag) ∨ ∃ j, tag = wireTag j ∧ liveTag? tag = some j := by
  by_cases h : tag.val < 16
  · exact .inr ⟨⟨tag.val, h⟩, rfl, liveTag_wireTag ⟨tag.val, h⟩⟩
  · refine .inl ⟨liveTag_none_of_ge tag (by omega), ?_⟩
    rintro j rfl
    exact h j.isLt

/-- A MALFORMED refusal adds its completion to the live requests and leaves tickets and Live Tag Map alone (R7, R9). -/
theorem livePairs_refuseMalformed (s : State) (src : Fin 32) (tag : Fin 64) :
    (s.refuseMalformed src tag).livePairs = s.livePairs + {(src, tag)} := by
  rw [State.refuseMalformed, State.livePairs_raise]
  refine Eq.trans ?_ (State.livePairs_joinReturn s (bareCompletion src tag (.refused .malformed)))
  exact livePairs_congr (by simp) (by simp) (by simp) (by simp)

@[simp] theorem refuseMalformed_tickets (s : State) (src : Fin 32) (tag : Fin 64) : (s.refuseMalformed src tag).tickets = s.tickets := by
  simp [State.refuseMalformed]

@[simp] theorem refuseMalformed_live (s : State) (src : Fin 32) (tag : Fin 64) (i : Fin 32) (j : Fin 16) :
    (s.refuseMalformed src tag).live i j = s.live i j := by
  simp [State.refuseMalformed]

theorem holdRequest_sameTraffic (s : State) (src : Fin 32) (r : StoredReq) :
    (s.setHold src (s.hold src ++ [r])).SameTraffic (s.holdRequest src r) := by
  simp only [State.holdRequest]
  split <;> exact .of_frame (by simp)

/-- What the arrival decision leaves alone, and the one request it adds, stored or refused (R62 to R68). -/
structure State.Arrives (s t : State) (src : Fin 32) (tag : Fin 16) : Prop where
  tickets : t.tickets = s.tickets
  liveTags : t.liveTags = s.liveTags
  livePairs : t.livePairs = s.livePairs + {(src, wireTag tag)}

theorem refuse_arrives (s : State) (src : Fin 32) (tag : Fin 16) (reason : Reason) :
    s.Arrives (s.refuse src tag reason) src tag :=
  ⟨by simp, by simp, by simp⟩

theorem placeArrival_arrives (s : State) (r : StoredReq) : s.Arrives (s.placeArrival r) r.source r.tag := by
  simp only [State.placeArrival]
  split
  · exact ⟨by simp, by simp, by simp [StoredReq.pair]⟩
  · split
    · exact ⟨by simp, by simp, State.livePairs_queueCharged s _ r⟩
    · split
      · obtain ⟨ht, hl, hp⟩ := holdRequest_sameTraffic s r.source r
        exact ⟨ht, hl, hp.trans (State.livePairs_hold_append s _ r)⟩
      · exact refuse_arrives s _ _ _

theorem decideArrival_arrives (s : State) (q : Request) (k : Kind) (tag : Fin 16) :
    s.Arrives (s.decideArrival q k tag) q.source tag := by
  unfold State.decideArrival
  repeat' split
  any_goals exact refuse_arrives s _ _ _
  all_goals exact placeArrival_arrives s _

/-! The four ways a take goes (R5, R7 to R10). -/

/-- The ticket of a request taken (R5). -/
def State.takeTicket (s : State) : State := { s with tickets := s.tickets + 1 }

theorem takeRequest_of_badTag {s : State} {q : Request} (h : liveTag? q.tag = none) :
    s.takeRequest q = s.takeTicket.refuseMalformed q.source q.tag := by
  simp only [State.takeRequest, h, State.takeTicket]

theorem takeRequest_of_live {s : State} {q : Request} {tag : Fin 16} (hq : q.tag = wireTag tag) (h : s.live q.source tag = true) :
    s.takeRequest q = s.takeTicket.dropDuplicate q.source tag := by
  simp only [State.takeRequest, hq, liveTag_wireTag]
  exact if_pos h

theorem takeRequest_of_badForm {s : State} {q : Request} {tag : Fin 16} (hq : q.tag = wireTag tag)
    (h : s.live q.source tag = false) (hf : ∀ k, q.kind = some k → badForm q k = true) :
    s.takeRequest q = (s.takeTicket.setLive q.source tag true).refuseMalformed q.source q.tag := by
  have hl : s.takeTicket.live q.source tag = false := h
  simp only [State.takeRequest, hq, liveTag_wireTag]
  refine (if_neg (ne_true_of_eq_false hl)).trans ?_
  cases hk : q.kind with
  | none => rfl
  | some k => simp only [hf k hk, if_true]; rfl

theorem takeRequest_of_goodForm {s : State} {q : Request} {tag : Fin 16} {k : Kind} (hq : q.tag = wireTag tag)
    (h : s.live q.source tag = false) (hk : q.kind = some k) (hf : badForm q k = false) :
    s.takeRequest q = (s.arrived q.source tag).decideArrival q k tag := by
  have hl : s.takeTicket.live q.source tag = false := h
  simp only [State.takeRequest, hq, liveTag_wireTag]
  refine (if_neg (ne_true_of_eq_false hl)).trans ?_
  simp only [hk, hf, Bool.false_eq_true, if_false]
  rfl

theorem takeRequest_trafficStep {s : State} (hfree : s.tickets < 160) (q : Request) : s.TrafficStep (s.takeRequest q) := by
  obtain ⟨hn, hne⟩ | ⟨tag, hq, -⟩ := liveTag_cases q.tag
  · rw [takeRequest_of_badTag hn]
    refine .taken q.source q.tag hfree (fun j hj => absurd hj (hne j)) (by simp; rfl) (fun i j => ?_)
      (livePairs_refuseMalformed _ _ _)
    simp [hne]; rfl
  cases hl : s.live q.source tag with
  | true =>
    rw [takeRequest_of_live hq hl]
    exact .kept (.of_frame (by simp [State.dropDuplicate, State.takeTicket]))
  | false =>
    have hfresh : ∀ j, wireTag j = q.tag → s.live q.source j = false := by
      intro j hj
      rwa [(wireTag_inj j tag).1 (hj.trans hq)]
    have hset := live_setLive_true s.takeTicket q.source tag
    rw [← hq] at hset
    by_cases hf : ∀ k, q.kind = some k → badForm q k = true
    · rw [takeRequest_of_badForm hq hl hf]
      exact .taken q.source q.tag hfree hfresh (by simp; rfl) (fun i j => (refuseMalformed_live _ _ _ i j).trans (hset i j))
        (livePairs_refuseMalformed _ _ _)
    · push Not at hf
      obtain ⟨k, hk, hf⟩ := hf
      rw [takeRequest_of_goodForm hq hl hk (by simpa using hf)]
      obtain ⟨ht, ht', hp⟩ := decideArrival_arrives (s.arrived q.source tag) q k tag
      refine .taken q.source q.tag hfree hfresh (ht.trans (by simp [State.arrived]))
        (fun i j => (live_congr ?_ i j).trans (hset i j)) (hp.trans ?_)
      · exact ht'.trans (by simp [State.arrived, State.takeTicket])
      · rw [hq, State.arrived, State.livePairs_countSource]; rfl

/-- The U-port takes a request while RESET_N and UP_RDY are high and a ticket is free (R5). -/
theorem canTake_iff (s : State) : s.canTake = true ↔ s.resetN = .high ∧ s.upRdy = .high ∧ s.tickets < 160 := by
  simp [State.canTake, and_assoc]

theorem execTake_trafficStep {s t : State} {header : BitVec 64} {data : List Beat} (h : execTake header data s = .next t) :
    s.TrafficStep t := by
  unfold execTake at h
  split at h <;> cases h
  · rename_i hc
    exact takeRequest_trafficStep ((canTake_iff s).1 hc).2.2 _
  · exact .kept (.refl s)

/-- A hand-over takes the completion's pair out of the Live Tag Map, where its tag is 0..15 (R13). -/
theorem handOverHead_live (s : State) (c : Completion) (i : Fin 32) (j : Fin 16) :
    (s.handOverHead c).live i j = (s.live i j && !decide (i = c.source ∧ wireTag j = c.tag)) := by
  simp only [State.handOverHead]
  obtain ⟨hn, hne⟩ | ⟨tag, ht, hs⟩ := liveTag_cases c.tag
  · simp only [hn, hne, and_false, decide_false, Bool.not_false, Bool.and_true]
    rfl
  · simp only [hs]
    rw [live_setLive_false, ht]
    rfl

/-- What else a hand-over does (R13). -/
theorem handOverHead_eq (s : State) (c : Completion) :
    s.handOverHead c = { s with
      returnQ := s.returnQ.tail, tickets := s.tickets - 1, ulCpl := some c, liveTags := (s.handOverHead c).liveTags } := by
  unfold State.handOverHead
  dsimp only
  split <;> rfl

theorem handOverHead_trafficStep {s : State} {c : Completion} {rest : List Completion} (h : s.returnQ = c :: rest) :
    s.TrafficStep (s.handOverHead c) := by
  refine .handedOver c.source c.tag (by rw [handOverHead_eq]) (handOverHead_live s c) ?_
  have hp : (s.handOverHead c).livePairs = ({ s with returnQ := rest } : State).livePairs := by
    rw [handOverHead_eq, h]
    exact livePairs_congr (fun _ => rfl) (fun _ => rfl) (fun _ => rfl) rfl
  rw [hp, State.livePairs, State.livePairs, h, returnPairs_cons, add_comm {completionPair c}, ← add_assoc]
  rfl

theorem execHandOver_trafficStep {s t : State} (h : execHandOver s = .next t) : s.TrafficStep t := by
  unfold execHandOver State.offered at h
  split at h <;> cases h
  · exact .kept (.refl s)
  · rename_i c hc
    split at hc
    · obtain ⟨rest, hq⟩ := List.head?_eq_some_iff.1 hc
      exact handOverHead_trafficStep hq
    · cases hc

/-- What each command does to the live requests. -/
theorem exec_trafficStep {c : Instr} {s t : State} (h : exec c s = .next t) : s.TrafficStep t := by
  cases c with
  | powerOnReset mcsN => exact execPowerOnReset_trafficStep h
  | resetNFall => exact execResetNFall_trafficStep h
  | upstreamReset => exact execUpstreamReset_trafficStep h
  | upRdyRise => cases h; exact .kept ⟨rfl, rfl, rfl⟩
  | downstreamDown =>
    exact .kept (ite_sameTraffic h ⟨rfl, rfl, rfl⟩ ((dropDownstream_sameTraffic s).trans (raise_sameTraffic _ _)))
  | downstreamUp => exact .kept (ite_sameTraffic h ⟨rfl, rfl, rfl⟩ ((loadCredits_sameTraffic s).trans (raise_sameTraffic _ _)))
  | take header data => exact execTake_trafficStep h
  | handOver => exact execHandOver_trafficStep h
  | grant => exact .kept (execGrant_sameTraffic h)
  | downstreamCompletion header data => exact .kept (ite_sameTraffic h (.refl s) (matchCompletion_sameTraffic s _))
  | responseTimeout d => exact .kept (execResponseTimeout_sameTraffic h)
  | boundary src => exact .kept (ite_sameTraffic h (takeBoundary_sameTraffic s src) (.refl s))
  | headExpiry src => exact .kept (ite_sameTraffic h (cascadeFuel_sameTraffic src _ s) (.refl s))
  | windowEnd src => exact .kept (ite_sameTraffic h (takeWindowEnd_sameTraffic s src) (.refl s))
  | triggerPinChange n level => exact .kept (execTriggerPinChange_sameTraffic h)
  | transitionSettles n => exact .kept (execTransitionSettles_sameTraffic h)
  | commandCut bytes => exact .kept (execCommandCut_sameTraffic h)
  | responseCut n => exact .kept (execResponseCut_sameTraffic h)
  | _ => exact .kept (exec_management_sameTraffic rfl h)

/-- What a step does to the live requests: a pin change on the management port and a tick do nothing to them. -/
theorem step_trafficStep {s t : State} (h : step s = .next t) : ∃ u, s.SameTraffic u ∧ u.TrafficStep t := by
  obtain ⟨u, hu, h⟩ := step_cases h
  refine ⟨u, by rw [hu]; exact ⟨rfl, rfl, rfl⟩, ?_⟩
  obtain ⟨c, h⟩ | rfl | rfl := h
  · exact exec_trafficStep h
  · refine .kept ?_
    unfold State.tick
    split
    · exact ⟨rfl, rfl, rfl⟩
    · exact .refl u
  · exact .kept (.refl t)

/-! ### The two laws -/

theorem ticketLaw_of_sameTraffic {s t : State} (h : s.SameTraffic t) (hs : s.TicketLaw) : t.TicketLaw := by
  rw [ticketLaw_iff] at hs ⊢
  rwa [h.tickets, h.livePairs]

theorem liveLaw_of_sameTraffic {s t : State} (h : s.SameTraffic t) (hs : s.LiveLaw) : t.LiveLaw := by
  rw [liveLaw_iff] at hs ⊢
  intro src tag
  rw [h.livePairs, live_congr h.liveTags]
  exact hs src tag

theorem ticketLaw_of_trafficStep {s t : State} (h : s.TrafficStep t) (hs : s.TicketLaw) : t.TicketLaw := by
  cases h with
  | kept h => exact ticketLaw_of_sameTraffic h hs
  | cleared tickets live livePairs => rw [ticketLaw_iff]; simp [tickets, livePairs]
  | taken src tag free fresh tickets live livePairs =>
    rw [ticketLaw_iff] at hs ⊢
    rw [tickets, livePairs, Multiset.card_add, Multiset.card_singleton]
    omega
  | handedOver src tag tickets live livePairs =>
    rw [ticketLaw_iff, livePairs, Multiset.card_add, Multiset.card_singleton] at hs
    rw [ticketLaw_iff]
    omega

/-- How often a pair of the Live Tag Map is the one pair (src, tag). -/
theorem count_singleton_pair (src i : Fin 32) (tag : Fin 64) (j : Fin 16) :
    ({(src, tag)} : Multiset (Fin 32 × Fin 64)).count (i, wireTag j) = if i = src ∧ wireTag j = tag then 1 else 0 := by
  rw [Multiset.count_singleton]
  simp only [Prod.mk.injEq]

theorem liveLaw_of_trafficStep {s t : State} (h : s.TrafficStep t) (hs : s.LiveLaw) : t.LiveLaw := by
  cases h with
  | kept h => exact liveLaw_of_sameTraffic h hs
  | cleared tickets live livePairs => rw [liveLaw_iff]; simp [live, livePairs]
  | taken src tag free fresh tickets live livePairs =>
    rw [liveLaw_iff] at hs ⊢
    intro i j
    have hij := hs i j
    rw [livePairs, Multiset.count_add, count_singleton_pair, live, hij]
    by_cases h : i = src ∧ wireTag j = tag
    · obtain ⟨rfl, hj⟩ := h
      simp [fresh j hj, hj]
    · simp [h]
  | handedOver src tag tickets live livePairs =>
    rw [liveLaw_iff] at hs ⊢
    intro i j
    have hij := hs i j
    rw [livePairs, Multiset.count_add, count_singleton_pair] at hij
    rw [live]
    by_cases h : i = src ∧ wireTag j = tag
    · rw [if_pos h] at hij
      rw [decide_eq_true h]
      split at hij <;> simp at hij ⊢
      exact hij
    · rw [if_neg h] at hij
      rw [decide_eq_false h, Bool.not_false, Bool.and_true]
      exact hij

/-- Settles O51: a step moves requests with their tickets; a take adds one of each below 160, and a hand-over takes out one of each. -/
theorem stepKeepsTicketLaw : Obligations.StepKeepsTicketLaw := by
  intro s t hs h
  obtain ⟨u, hu, ht⟩ := step_trafficStep h
  exact ticketLaw_of_trafficStep ht (ticketLaw_of_sameTraffic hu hs)

/-- Settles O59: a request taken has a pair that no live request has, and its pair goes when its completion is handed over. -/
theorem stepKeepsLiveLaw : Obligations.StepKeepsLiveLaw := by
  intro s t hs h
  obtain ⟨u, hu, ht⟩ := step_trafficStep h
  exact liveLaw_of_trafficStep ht (liveLaw_of_sameTraffic hu hs)

end Sys2Proof.Machine
end

section
/-! Resets, the U-port and the idle step: the statements about single commands of chapter 1. -/

namespace Sys2Proof.Machine

/-! ### The U-port -/

/-- A U-port that takes nothing leaves a presented request untaken (R5). -/
theorem exec_take_of_closed {s : State} (h : s.canTake = false) (header : BitVec 64) (data : List Beat) :
    exec (.take header data) s = .next s :=
  if_neg (ne_true_of_eq_false h)

theorem exec_take_of_open {s : State} (hr : s.resetN = .high) (hu : s.upRdy = .high) (hf : s.tickets < 160) (header : BitVec 64)
    (data : List Beat) : exec (.take header data) s = .next (s.takeRequest (Request.ofMessage header data)) :=
  if_pos (canTake_of_open hr hu hf)

theorem canTake_eq_false {s : State} (h : s.resetN = .low ∨ s.upRdy = .low ∨ 160 ≤ s.tickets) : s.canTake = false := by
  rw [← Bool.not_eq_true, canTake_iff]
  rintro ⟨hr, hu, hf⟩
  rcases h with h | h | h
  · rw [hr] at h; cases h
  · rw [hu] at h; cases h
  · omega

/-- Settles O7: the level is all that changes, and it is one of the three conditions of a take. -/
theorem uPortIsOpenWithUpRdy : Obligations.UPortIsOpenWithUpRdy := by
  refine ⟨fun s => ⟨_, rfl, rfl, ?_, ?_⟩, fun header data s h => exec_take_of_closed (canTake_eq_false h) header data⟩
  · simp [canTake_iff]
  · simp [State.offered]

/-- The form rules of R9, each of which makes a request malformed. -/
theorem badForm_of_fault {q : Request}
    (h : q.kind = none ∨ q.address.toNat % 32 ≠ 0 ∨ 4096 < q.address.toNat % 4096 + 32 * q.beats ∨
      (q.kind = some .read ∧ q.data ≠ []) ∨ (q.kind = some .write ∧ q.data.length ≠ q.beats))
    (k : Kind) (hk : q.kind = some k) : badForm q k = true := by
  unfold badForm
  rcases h with h | h | h | ⟨h, hd⟩ | ⟨h, hd⟩
  · rw [hk] at h; cases h
  · simp [h]
  · simp [h]
  · cases hk.symm.trans h; simp [hd]
  · cases hk.symm.trans h; simp [hd]

@[simp] theorem refuseMalformed_liveTags (s : State) (src : Fin 32) (tag : Fin 64) :
    (s.refuseMalformed src tag).liveTags = s.liveTags := by
  simp [State.refuseMalformed]

/-- Settles O10: the tag is above 15, or the pair becomes live and the form is at fault. -/
theorem takeRefusesMalformed : Obligations.TakeRefusesMalformed := by
  intro header data s q hr hu hf hbad
  rw [exec_take_of_open hr hu hf]
  rcases hbad with hge | ⟨tag, hq, hl, hform⟩
  · rw [takeRequest_of_badTag (liveTag_none_of_ge _ hge)]
    refine ⟨_, rfl, ?_, fun src tag => ?_⟩
    · rw [refuseMalformed_liveTags]; rfl
    · have hne : wireTag tag ≠ q.tag := fun h => absurd tag.isLt (by rw [← h] at hge; exact not_lt.2 hge)
      rw [refuseMalformed_live, decide_eq_false (fun h => hne h.2), Bool.or_false]
      rfl
  · rw [takeRequest_of_badForm hq hl (badForm_of_fault hform)]
    refine ⟨_, rfl, ?_, fun src tag' => ?_⟩
    · rw [refuseMalformed_liveTags]; rfl
    · rw [refuseMalformed_live, live_setLive_true, ← hq]
      rfl

/-- Settles O11: the ticket that the take counts is the one that the drop frees. -/
theorem takeDropsDuplicate : Obligations.TakeDropsDuplicate := by
  intro header data s tag q hr hu hf hq hl
  rw [exec_take_of_open hr hu hf, takeRequest_of_live hq hl]
  rfl

theorem offered_eq_head? {s : State} (hr : s.resetN = .high) (hu : s.upRdy = .high) : s.offered = s.returnQ.head? :=
  if_pos ⟨hr, hu⟩

theorem exec_handOver_of_offered {s : State} {c : Completion} (h : s.offered = some c) :
    exec .handOver s = .next (s.handOverHead c) := by
  simp only [exec, execHandOver, h]

theorem exec_handOver_of_none {s : State} (h : s.offered = none) : exec .handOver s = .next s := by
  simp only [exec, execHandOver, h]

theorem offered_eq_none {s : State} (h : s.resetN = .low ∨ s.upRdy = .low ∨ s.returnQ = []) : s.offered = none := by
  unfold State.offered
  rcases h with h | h | h <;> simp [h]

/-- Settles O15: the offered completion is the head of the Return Queue, and the rest of the queue is what is left. -/
theorem handOverDeliversTheHead : Obligations.HandOverDeliversTheHead := by
  refine ⟨fun s c rest hr hu hq => ?_, fun s h => ⟨offered_eq_none h, exec_handOver_of_none (offered_eq_none h)⟩⟩
  have ho : s.offered = some c := by rw [offered_eq_head? hr hu, hq, List.head?_cons]
  have he := handOverHead_eq s c
  rw [hq, List.tail_cons] at he
  refine ⟨ho, _, exec_handOver_of_offered ho, he, handOverHead_live s c, ?_⟩
  rw [he]
  exact offered_eq_head? hr hu

/-! ### Resets -/

/-- An event raised writes the event queue alone (R160). -/
theorem raise_eq (s : State) (e : Event) : s.raise e = { s with evq := (s.raise e).evq } := by
  unfold State.raise
  split <;> rfl

/-- Settles O6: the upstream side is emptied, so that no slot and no ACTIVE entry is left, and UP_RDY low closes the port. -/
theorem upstreamResetDiscards : Obligations.UpstreamResetDiscards := by
  intro s hr hu
  have hx : exec .upstreamReset s = .next (s.dropUpstream.raise (.upstreamReset s.occupancy s.activeCount)) := by
    simp [exec, execUpstreamReset, hr, hu]
  generalize (Event.upstreamReset s.occupancy s.activeCount) = e at hx ⊢
  have he : (s.dropUpstream.raise e).evq = (s.raise e).evq := raise_evq_congr e rfl rfl rfl
  have hhold : ∀ i, (s.dropUpstream.raise e).hold i = [] := by simp
  have hqueue : ∀ c, (s.dropUpstream.raise e).queue c = [] := by simp
  have hentry : ∀ d, (s.dropUpstream.raise e).entry d = (s.entry d).orphan := by simp
  refine ⟨_, hx, ?_, live_of_noLiveTags (by simp [State.dropUpstream]), hhold, hqueue, fun d => ?_,
    State.occupancy_eq_zero hhold hqueue, ?_, exec_take_of_closed (canTake_eq_false (.inr (.inl (by simp [State.dropUpstream]))))⟩
  · rw [← he, raise_eq]; rfl
  · rw [hentry]; cases s.entry d <;> rfl
  · refine (countFin_congr fun d => ?_).trans (countFin_false 64)
    rw [hentry]
    cases s.entry d <;> rfl

/-- Settles O4: each table is read back at every index. -/
theorem powerOnResetLeavesPowerOnValues : Obligations.PowerOnResetLeavesPowerOnValues := by
  intro mcsN s
  refine ⟨_, rfl, ⟨rfl, rfl, rfl, rfl, rfl⟩, ⟨rfl, rfl, State.powerOn_live⟩, ⟨State.powerOn_region, rfl⟩,
    fun src => ⟨State.powerOn_contract src, State.powerOn_hold src, State.powerOn_srcCount src⟩,
    fun c => ⟨State.powerOn_queue c, State.powerOn_cls c, State.powerOn_clsCount c⟩,
    ⟨rfl, State.powerOn_entry, rfl, rfl, rfl⟩, fun n => ?_, ⟨rfl, rfl, ?_, rfl⟩, State.powerOn_decodeRegion⟩
  · rw [State.powerOn_line]
    simp [Line.powerOn, State.line]
  · exact decide_eq_true_iff

/-- Settles O50: at reset the store, the tables and the queues are empty, and each contract and class has its power-on values. -/
theorem resetMeetsTheLaws : Obligations.ResetMeetsTheLaws := by
  have hhold : ∀ i, State.reset.hold i = [] := State.powerOn_hold
  have hqueue : ∀ c, State.reset.queue c = [] := State.powerOn_queue
  have hentry : ∀ d, State.reset.entry d = .free := State.powerOn_entry
  have hcontract : ∀ i, State.reset.contract i = Contract.powerOn := State.powerOn_contract
  have hcls : ∀ c, State.reset.cls c = ClassRec.powerOn := State.powerOn_cls
  have hcount : ∀ c, State.reset.clsCount c = ClassCounts.cleared := State.powerOn_clsCount
  have hpairs : State.reset.livePairs = 0 := livePairs_eq_zero hhold hqueue (by simp [hentry]) rfl
  have hticket : State.reset.TicketLaw := by rw [ticketLaw_iff, hpairs]; decide
  have hlive : State.reset.LiveLaw := by
    rw [liveLaw_iff, hpairs]
    intro src tag
    rw [State.reset, State.powerOn_live]
    rfl
  have hbalance : State.reset.BalanceLaw := fun src => by rw [hcontract]; decide
  have htimer : State.reset.TimerLaw := fun _ src => by rw [hcontract]; decide
  have hholdLaw : State.reset.HoldLaw := fun src => by rw [hhold]; simp
  have hclass : State.reset.ClassLaw :=
    ⟨fun src => by rw [hhold]; simp, fun c => by rw [hqueue]; simp, fun src => by rw [hcontract]; decide⟩
  have hslot : State.reset.SlotLaw := by rw [State.SlotLaw, State.storedInOrder_eq_nil hhold hqueue]; decide
  have hcredit : State.reset.CreditLaw := fun _ =>
    ⟨fun h => (by cases h), fun _ => ⟨fun c => by rw [hcls]; rfl, fun d => by rw [hentry]; rfl⟩⟩
  have hhistogram : State.reset.HistogramLaw := fun c => by rw [hcount, hcls]; decide
  have hline : State.reset.LineLaw := fun _ n => by
    rw [State.reset, State.powerOn_line]
    simp [Line.powerOn, Line.consistent]
  have hevent : State.reset.EventLaw := by decide
  have hport : State.reset.PortLaw := by decide
  exact ⟨hticket, hbalance, hholdLaw, hevent, hcredit, hhistogram, htimer, hclass, hlive, hslot, hline, hport⟩

/-! ### RESET_N low -/

/-- With RESET_N low the management port takes no command (R174). -/
theorem manage_of_resetN_low {s : State} (h : s.resetN = .low) (opcode : Byte) (a : Answer) : s.manage opcode a = .next s :=
  manage_not_listening (fun hl => by cases h.symm.trans hl.1) opcode a

/-- With RESET_N low the pins of the management port move and no more (R174). -/
theorem drive_of_resetN_low {s : State} (h : s.resetN = .low) (e : PortEdge) :
    s.drive e = .next { s with port := s.port.moved e } := by
  rw [State.drive, portEdge_unchanged (.inr h)]

/-- With RESET_N low no class is eligible, so none is granted (R114). -/
theorem winner_of_resetN_low {s : State} (h : s.resetN = .low) : s.winner = none := by
  rw [← Option.not_isSome_iff_eq_none, winner_isSome]
  rintro ⟨c, hc⟩
  obtain ⟨-, -, -, -, hr⟩ := (eligible_iff s c).1 hc
  rw [h] at hr; cases hr

/-- The commands that move a pin or end the reset. -/
def actsInReset : Instr → Bool
  | .powerOnReset _ => true
  | .upstreamReset => true
  | .upRdyRise => true
  | .downstreamDown => true
  | .downstreamUp => true
  | .triggerPinChange _ _ => true
  | _ => false

/-- With RESET_N low every other command leaves the state as it is (R21). -/
theorem exec_of_resetN_low {s : State} (h : s.resetN = .low) {c : Instr} (hc : actsInReset c = false) : exec c s = .next s := by
  have hn : s.resetN ≠ .high := by simp [h]
  cases c with
  | powerOnReset mcsN => cases hc
  | upstreamReset => cases hc
  | upRdyRise => cases hc
  | downstreamDown => cases hc
  | downstreamUp => cases hc
  | triggerPinChange n level => cases hc
  | resetNFall => exact if_pos h
  | take header data => exact exec_take_of_closed (canTake_eq_false (.inl h)) header data
  | handOver => exact exec_handOver_of_none (offered_eq_none (.inl h))
  | grant => simp only [exec, execGrant, winner_of_resetN_low h]
  | downstreamCompletion header data => exact if_pos h
  | responseTimeout d => exact if_neg fun hd => hn hd.1
  | boundary src => exact if_neg fun hd => hn hd.1
  | headExpiry src => exact if_neg fun hd => hn hd.1
  | windowEnd src => exact if_neg fun hd => hn hd.1
  | transitionSettles n => exact if_neg fun hd => hn hd.1
  | commandCut bytes =>
    cases bytes with
    | nil => rfl
    | cons opcode rest => exact if_neg fun hd => hn hd.1.1
  | responseCut n =>
    simp only [exec, execResponseCut]
    split
    · rfl
    · exact if_neg fun hd => hn hd.1.1
  | _ => exact manage_of_resetN_low h _ _

/-- Settles O5: with RESET_N low each command's first test fails, and a fall of RESET_N leaves what `State.abandon` gives. -/
theorem resetNLowStopsThePart : Obligations.ResetNLowStopsThePart := by
  refine ⟨fun s h => ⟨if_pos h, rfl, if_pos (.inl h), if_pos (.inl h), fun n level => if_pos h,
    fun level => ⟨drive_of_resetN_low h _, drive_of_resetN_low h _, drive_of_resetN_low h _⟩, if_pos (.inl h), fun c hc hp => ?_⟩,
    fun s h => ?_⟩
  · refine exec_of_resetN_low h ?_
    cases c with
    | powerOnReset level => cases level <;> simp at hc
    | triggerPinChange n level => exact absurd rfl (hp n level)
    | upstreamReset => simp at hc
    | upRdyRise => simp at hc
    | downstreamDown => simp at hc
    | downstreamUp => simp at hc
    | _ => rfl
  · have hx : exec .resetNFall s = .next s.abandon := if_neg (by simp [h])
    exact ⟨_, hx, rfl, rfl, rfl, live_of_noLiveTags rfl, rfl, rfl, State.occupancy_eq_zero (by simp) (by simp), by simp, rfl, rfl, rfl,
      rfl, rfl, rfl, by simp⟩

/-! ### The idle step -/

/-- One tick, with the hold of a low RESET_N written out (R87). -/
theorem tick_eq (s : State) : s.tick = { s with timeBase := if s.resetN = .high then s.timeBase + 1 else s.timeBase } := by
  unfold State.tick
  split <;> rfl

/-- With no command waiting a step takes one of the turns that may come next. -/
theorem step_of_idle {s : State} (h : s.pending = []) :
    ∃ turn ∈ s.turns, step s = ({ s with choices := s.choices + 1 } : State).takeTurn turn := by
  have hne : s.turns ≠ [] := by
    unfold State.turns
    split <;> split <;> simp_all
  refine ⟨_, pickTurn_mem s.choices s.turns hne, ?_⟩
  simp only [step, h, State.idle]

/-- The turns that may come next: the next pin change, an event that is due, or, with none due, a tick (log 1, log 20). -/
theorem mem_turns {s : State} {turn : Turn} (h : turn ∈ s.turns) :
    (∃ e rest, s.wire = e :: rest ∧ turn = .edge e rest) ∨ (s.dueEvents = [] ∧ turn = .tick) ∨
      ∃ c ∈ s.dueEvents, turn = .event c := by
  rcases List.mem_append.1 h with h | h
  · split at h
    · cases h
    · exact .inl ⟨_, _, ‹_›, List.mem_singleton.1 h⟩
  · split at h
    · exact .inr (.inl ⟨‹_›, List.mem_singleton.1 h⟩)
    · obtain ⟨c, hc, rfl⟩ := List.mem_map.1 h
      exact .inr (.inr ⟨c, hc, rfl⟩)

/-- A step with no command waiting drives the next pin change, ticks with no event due, or takes an event that is due. -/
theorem idle_step_cases {s : State} (h : s.pending = []) :
    (∃ e rest, s.wire = e :: rest ∧ step s = State.drive { s with choices := s.choices + 1, wire := rest } e) ∨
      (s.dueEvents = [] ∧ step s = .next ({ s with choices := s.choices + 1 } : State).tick) ∨
      ∃ c ∈ s.dueEvents, step s = exec c { s with choices := s.choices + 1 } := by
  obtain ⟨turn, hmem, hstep⟩ := step_of_idle h
  rcases mem_turns hmem with ⟨e, rest, hw, rfl⟩ | ⟨hd, rfl⟩ | ⟨c, hc, rfl⟩
  · exact .inl ⟨e, rest, hw, hstep⟩
  · exact .inr (.inl ⟨hd, hstep⟩)
  · exact .inr (.inr ⟨c, hc, hstep⟩)

/-- A grant is due while DN_RDY is high, an entry FREE and a class has a request queued and a credit (R114, R115). -/
theorem grantDue_iff {s : State} (hr : s.resetN = .high) : (∃ k, s.eligible k = true) ↔
    s.dnRdy = .high ∧ (∃ d, s.entry d = .free) ∧ ∃ k, s.queue k ≠ [] ∧ 1 ≤ (s.cls k).credits := by
  simp only [eligible_iff, hr, and_true]
  constructor
  · rintro ⟨k, hq, hc, hd, hn⟩
    exact ⟨hn, hd, k, hq, hc⟩
  · rintro ⟨hn, hd, k, hq, hc⟩
    exact ⟨k, hq, hc, hd, hn⟩

/-- Settles O2: the step takes one of the turns, and each event that is due is written out by its own condition. -/
theorem idleStepTakesADueEventOrTicks : Obligations.IdleStepTakesADueEventOrTicks := by
  refine ⟨fun s h => ?_, fun s => ⟨fun hr => if_pos hr, fun hr c => ?_⟩⟩
  · have hcases := idle_step_cases h
    rw [tick_eq] at hcases
    refine ⟨fun hw hd => ?_, fun hw hd => ?_, fun e rest hw => ?_⟩
    · obtain ⟨e, rest, he, -⟩ | ⟨-, ht⟩ | ⟨c, hc, -⟩ := hcases
      · rw [hw] at he; cases he
      · exact ht
      · rw [hd] at hc; cases hc
    · obtain ⟨e, rest, he, -⟩ | ⟨hn, -⟩ | hc := hcases
      · rw [hw] at he; cases he
      · exact absurd hn hd
      · exact hc
    · obtain ⟨e', rest', he, hs⟩ | ht | hc := hcases
      · rw [hw] at he; cases he
        exact .inl hs
      · exact .inr (.inl ht)
      · exact .inr (.inr hc)
  · rw [mem_dueEvents s hr c]
    simp only [grantDue_iff hr, boundaryDue_iff, windowDue_iff, headDue_iff, responseDue_iff, transitionDue_iff, exists_and_left]

end Sys2Proof.Machine
end

section
/-! The Region Decoder: the region decision of a request, and REGION_WRITE with its read-back. -/

namespace Sys2Proof.Machine

/-! ### The region decision -/

theorem covers_iff {r : Region} {page : Nat} {src : Fin 32} : r.covers page src = true ↔
    r.valid = true ∧ r.base ≤ page ∧ page ≤ r.limit ∧ r.mask.getLsbD src = true := by
  simp [Region.covers, and_assoc]

/-- The match is the covering entry below which none covers (R25). -/
theorem matchRegion_of_lowest {s : State} {page : Nat} {src : Fin 32} {i : Fin 16} (h : (s.region i).covers page src = true)
    (hlow : ∀ j < i, ¬ (s.region j).covers page src = true) : s.matchRegion page src = some (s.region i) := by
  refine List.find?_eq_some_iff_getElem.2 ⟨h, i, by simp, by simp [State.region], fun j hj => ?_⟩
  have hj := hlow ⟨j, hj.trans i.isLt⟩ hj
  simpa [State.region] using hj

/-- No entry covers, and none matches (R26). -/
theorem matchRegion_of_none {s : State} {page : Nat} {src : Fin 32} (h : ∀ i, ¬ (s.region i).covers page src = true) :
    s.matchRegion page src = none := by
  refine List.find?_eq_none.2 fun r hr => ?_
  obtain ⟨i, hi, rfl⟩ := List.mem_iff_getElem.1 hr
  exact h ⟨i, by simpa using hi⟩

theorem decodeRegion_of_match {s : State} {address : Address} {src : Fin 32} {r : Region}
    (h : s.matchRegion (pageOf address) src = some r) (beats : Nat) :
    s.decodeRegion address src beats = r.action.charge r.weight beats := by
  simp only [State.decodeRegion, h]

theorem decodeRegion_of_unmatched {s : State} {address : Address} {src : Fin 32} (h : s.matchRegion (pageOf address) src = none)
    (beats : Nat) :
    s.decodeRegion address src beats = s.globals.unmatchedAction.charge s.globals.unmatchedWeight beats := by
  simp only [State.decodeRegion, h]

/-- Settles O16: the search of the table from index 0 upward ends at the lowest covering entry, or finds none. -/
theorem regionDecisionTakesLowestCover : Obligations.RegionDecisionTakesLowestCover := by
  intro s address src beats covers charge
  have hcovers (i : Fin 16) : (s.region i).covers (pageOf address) src = true ↔ covers i := covers_iff
  refine ⟨fun i hi hlow => ?_, fun hnone => ?_⟩
  · exact decodeRegion_of_match
      (matchRegion_of_lowest ((hcovers i).2 hi) fun j hj => mt (hcovers j).1 (hlow j hj)) beats
  · exact decodeRegion_of_unmatched (matchRegion_of_none fun i => mt (hcovers i).1 (hnone i)) beats

/-! ### The payload of a region entry -/

theorem validOfCode_eq_some_iff {n : Nat} {v : Bool} : validOfCode n = some v ↔ n = if v then 1 else 0 := by
  constructor
  · intro h
    unfold validOfCode at h
    split at h <;> cases h <;> rfl
  · rintro rfl
    cases v <;> rfl

theorem regionAction_ofCode_eq_some_iff {n : Nat} {a : RegionAction} : RegionAction.ofCode n = some a ↔ a.code = n := by
  constructor
  · intro h
    unfold RegionAction.ofCode at h
    split at h <;> cases h <;> rfl
  · rintro rfl
    exact regionAction_ofCode_code a

theorem weight_ofCode_eq_some_iff {n : Nat} {w : Weight} : Weight.ofCode n = some w ↔ w.beats = n := by
  constructor
  · intro h
    rcases weight_ofCode_spec n with ⟨w', hw', hn⟩ | ⟨hnone, -⟩
    · cases hw'.symm.trans h
      exact hn
    · cases hnone.symm.trans h
  · rintro rfl
    exact weight_ofCode_beats w

/-- The payloads that give an entry: each field in its range, at its place in the layout (R29 step 3, R184). -/
theorem region_ofFrame_eq_some_iff {f : Frame} {r : Region} : Region.ofFrame f = some r ↔
    (f.u8 0 = (if r.valid then 1 else 0) ∧ r.action.code = f.u8 9 ∧ r.weight.beats = f.u8 10) ∧
      (r.base = f.u32 1 ∧ r.limit = f.u32 5 ∧ r.mask = BitVec.ofNat 32 (f.u32 11)) ∧ r.base < 2 ^ 28 ∧ r.limit < 2 ^ 28 := by
  rw [← validOfCode_eq_some_iff, ← regionAction_ofCode_eq_some_iff, ← weight_ofCode_eq_some_iff]
  constructor
  · intro h
    unfold Region.ofFrame at h
    split at h
    · next hv ha hw =>
      split at h
      · next hrange =>
        cases h
        exact ⟨⟨hv, ha, hw⟩, ⟨rfl, rfl, rfl⟩, hrange⟩
      · cases h
    · cases h
  · rintro ⟨⟨hv, ha, hw⟩, ⟨hb, hl, hm⟩, hrange⟩
    simp only [Region.ofFrame, hv, ha, hw, ← hb, ← hl, ← hm, if_pos hrange]

theorem regionAction_code_le_two (a : RegionAction) : a.code ≤ 2 := by cases a <;> decide

theorem weight_beats_cases (w : Weight) : w.beats = 1 ∨ w.beats = 2 ∨ w.beats = 4 := by cases w <;> decide

/-- A payload is its one-byte fields in order. -/
theorem payload_eq_map_u8 (f : Frame) : f.payload = (List.range f.payload.length).map fun i => byteOf (f.u8 i) := by
  refine List.ext_getElem (by simp) fun i hi _ => ?_
  simp [Frame.u8, byteOf_toNat, hi]

theorem bytes4_u32 (f : Frame) (i : Nat) :
    bytes4 (f.u32 i) = [byteOf (f.u8 i), byteOf (f.u8 (i + 1)), byteOf (f.u8 (i + 2)), byteOf (f.u8 (i + 3))] := by
  simp only [Frame.u8, byteOf_toNat]
  exact bytes4_of_bytes _ _ _ _

theorem frame_u8_lt (f : Frame) (i : Nat) : f.u8 i < 256 := BitVec.isLt _

theorem frame_u32_lt (f : Frame) (i : Nat) : f.u32 i < 2 ^ 32 := by
  have h0 := frame_u8_lt f i
  have h1 := frame_u8_lt f (i + 1)
  have h2 := frame_u8_lt f (i + 2)
  have h3 := frame_u8_lt f (i + 2 + 1)
  unfold Frame.u32 Frame.u16
  omega

theorem boolByte_eq_byteOf (b : Bool) : boolByte b = byteOf (if b then 1 else 0) := by cases b <;> rfl

/-- The bytes of an entry read from a payload of 15 bytes are that payload (R30, R184). -/
theorem region_bytes_of_ofFrame {f : Frame} {r : Region} (h : Region.ofFrame f = some r) (hlen : f.payload.length = 15) :
    r.bytes = f.payload := by
  obtain ⟨⟨hv, ha, hw⟩, ⟨hb, hl, hm⟩, -⟩ := region_ofFrame_eq_some_iff.1 h
  have hmask : r.mask.toNat = f.u32 11 := by rw [hm, BitVec.toNat_ofNat, Nat.mod_eq_of_lt (frame_u32_lt f 11)]
  rw [payload_eq_map_u8 f, hlen, Region.bytes, boolByte_eq_byteOf, ← hv, ha, hw, hb, hl, hmask]
  simp only [bytes4_u32]
  rfl

/-! ### REGION_WRITE and REGION_READ -/

theorem exec_regionWrite {f : Frame} {s : State} (h : s.listening) (hlen : f.len.toNat ≤ 48) : exec (.regionWrite f) s =
    .next ((answerRegionWrite f s).state.answered 0x21#8 (answerRegionWrite f s).status (answerRegionWrite f s).data) := by
  rw [← manage_listening h, ← judged_of_len_le s (answerRegionWrite f s) hlen]
  rfl

theorem exec_regionRead {f : Frame} {s : State} (h : s.listening) (hlen : f.len.toNat ≤ 48) : exec (.regionRead f) s =
    .next ((answerRegionRead f s).state.answered 0x20#8 (answerRegionRead f s).status (answerRegionRead f s).data) := by
  rw [← manage_listening h, ← judged_of_len_le s (answerRegionRead f s) hlen]
  rfl

theorem answerRegionWrite_badIndex {f : Frame} (s : State) (hi : 16 ≤ f.index.toNat) :
    answerRegionWrite f s = refused .badIndex s := by
  simp only [answerRegionWrite, indexBelow_eq_none hi]

theorem answerRegionWrite_badLength {f : Frame} (s : State) (i : Fin 16) (hi : f.index.toNat = i.val) (hl : f.len.toNat ≠ 15) :
    answerRegionWrite f s = refused .badLength s := by
  simp only [answerRegionWrite, indexBelow_eq_some i hi, badLength_of_ne hl, if_true]

/-- Past index and length, an entry in order is stored (R29). -/
theorem answerRegionWrite_ok {f : Frame} {r : Region} (s : State) (i : Fin 16) (hi : f.index.toNat = i.val) (hl : f.len.toNat = 15)
    (hr : Region.ofFrame f = some r) (hle : r.base ≤ r.limit) : answerRegionWrite f s = ⟨.ok, [], s.setRegion i r⟩ := by
  simp only [answerRegionWrite, indexBelow_eq_some i hi, badLength_of_eq hl, Bool.false_eq_true, if_false, hr, if_neg (not_lt.2 hle)]

/-- Past index and length, a payload that gives no entry, or one with its base above its limit, is refused (R29 steps 3 and 4). -/
theorem answerRegionWrite_badValue {f : Frame} (s : State) (i : Fin 16) (hi : f.index.toNat = i.val) (hl : f.len.toNat = 15)
    (hbad : ∀ r, Region.ofFrame f = some r → r.limit < r.base) : answerRegionWrite f s = refused .badValue s := by
  simp only [answerRegionWrite, indexBelow_eq_some i hi, badLength_of_eq hl, Bool.false_eq_true, if_false]
  cases hr : Region.ofFrame f with
  | none => rfl
  | some r => exact if_pos (hbad r hr)

/-- A field out of its range, or a base above the limit, leaves no entry in order (R29 steps 3 and 4). -/
theorem limit_lt_base_of_badValue {f : Frame} {r : Region} (hbad : 1 < f.u8 0 ∨ 2 < f.u8 9 ∨
      (f.u8 10 ≠ 1 ∧ f.u8 10 ≠ 2 ∧ f.u8 10 ≠ 4) ∨ 2 ^ 28 ≤ f.u32 1 ∨ 2 ^ 28 ≤ f.u32 5 ∨ f.u32 5 < f.u32 1)
    (h : Region.ofFrame f = some r) : r.limit < r.base := by
  obtain ⟨⟨hv, ha, hw⟩, ⟨hb, hl, -⟩, hrange⟩ := region_ofFrame_eq_some_iff.1 h
  have hvalid : f.u8 0 ≤ 1 := by rw [hv]; split <;> omega
  have haction := regionAction_code_le_two r.action
  have hweight := weight_beats_cases r.weight
  omega

theorem answerRegionRead_ok {f : Frame} (s : State) (i : Fin 16) (hi : f.index.toNat = i.val) (hl : f.len.toNat = 0) :
    answerRegionRead f s = ⟨.ok, (s.region i).bytes, s⟩ := by
  simp only [answerRegionRead, indexBelow_eq_some i hi, badLength_of_eq hl, Bool.false_eq_true, if_false]

/-- Settles O35: the checks in their order, and the read-back because an entry's bytes are the payload it was read from. -/
theorem regionWriteReplacesTheEntry : Obligations.RegionWriteReplacesTheEntry := by
  intro f s hs hlen
  rw [exec_regionWrite hs hlen]
  refine ⟨fun hi => ?_, fun hi hl => ?_, fun hi hl hbad => ?_, ?_⟩
  · rw [answerRegionWrite_badIndex s hi]
    rfl
  · rw [answerRegionWrite_badLength s ⟨_, hi⟩ rfl hl]
    rfl
  · rw [answerRegionWrite_badValue s ⟨_, hi⟩ rfl hl fun _ => limit_lt_base_of_badValue hbad]
    rfl
  · intro i r g hi hl hwf hv hb hlim hle hlt ha hw hm hgi hgl
    have hr : Region.ofFrame f = some r :=
      region_ofFrame_eq_some_iff.2 ⟨⟨hv, ha, hw⟩, ⟨hb, hlim, hm⟩, hle.trans_lt hlt, hlt⟩
    have hglen : g.len.toNat = 0 := by rw [hgl]; rfl
    constructor
    · rw [answerRegionWrite_ok s i hi hl hr hle]
    · rw [exec_regionRead (s := s.setRegion i r) hs (by omega), answerRegionRead_ok _ i (by rw [hgi, hi]) hglen,
        State.setRegion_region_self, region_bytes_of_ofFrame hr (payload_length_of_wellFormed hwf hl (by decide))]

end Sys2Proof.Machine
end

section
/-! Source contracts: CONTRACT_WRITE and the source commands, each effect written out once, and the statements about single commands of
chapter 3. -/

namespace Sys2Proof.Machine

/-! ### Staged copies and ceilings -/

/-- A balance clipped to a ceiling, as R37 and R49 say it. -/
theorem min_ceiling (b : Nat) (x : Settings) :
    min b x.ceiling = if x.budget + x.carry < b then x.budget + x.carry else b := by
  unfold Settings.ceiling
  split <;> omega

theorem ceilingLegal_iff (x : Settings) : x.ceilingLegal = true ↔ 64 ≤ x.budget + x.carry ∧ x.budget + x.carry ≤ 65535 := by
  rw [Settings.ceilingLegal, Bool.and_eq_true, decide_eq_true_iff, decide_eq_true_iff]
  rfl

theorem applyStaged_of_none {s : State} {src : Fin 32} (h : (s.contract src).staged = none) : s.applyStaged src = s := by
  simp only [State.applyStaged, h]

theorem applyStaged_of_some {s : State} {src : Fin 32} {x : Settings} (h : (s.contract src).staged = some x) :
    s.applyStaged src = (s.setContract src { s.contract src with
      settings := x, staged := none, balance := min (s.contract src).balance x.ceiling }).raise (.contractApplied src) := by
  simp only [State.applyStaged, h]

/-- Settles O46: one case for a copy that is absent and one for a copy that is present. -/
theorem stagedCopyIsAppliedWhole : Obligations.StagedCopyIsAppliedWhole := by
  refine fun s src => ⟨applyStaged_of_none, fun x hx => ?_⟩
  rw [applyStaged_of_some hx, min_ceiling]

/-! ### The effects of the source commands -/

/-- The timer that a contract with these settings starts at `now` (R90). -/
def Settings.freshTimer (x : Settings) (now : Time) : Timer :=
  match x.mode with
  | .reload => .running .period now x.periodTicks
  | .oneShot => .running .window now x.periodTicks
  | .triggered => .stopped

/-- A contract that starts afresh: PACED, a whole budget, the timer of its mode (R40, R46, R57). -/
def Contract.started (c : Contract) (edges : Nat) (now : Time) : Contract :=
  { c with state := .paced, balance := c.settings.budget, edgeCount := edges, timer := c.settings.freshTimer now }

theorem startTimer_eq (s : State) (src : Fin 32) :
    s.startTimer src =
      s.setContract src { s.contract src with timer := (s.contract src).settings.freshTimer s.timeBase } := by
  unfold State.startTimer Settings.freshTimer
  cases (s.contract src).settings.mode <;> rfl

theorem enableSource_eq (s : State) (src : Fin 32) :
    s.enableSource src = s.setContract src ((s.contract src).started 0 s.timeBase) := by
  simp [State.enableSource, startTimer_eq, State.setState, State.setBalance, State.setEdgeCount, setContract_setContract,
    Contract.started]

theorem disableSource_of_paced {s : State} {src : Fin 32} (h : (s.contract src).state = .paced) :
    s.disableSource src = s.disablePaced src :=
  if_pos h

theorem disableSource_of_not_paced {s : State} {src : Fin 32} (h : (s.contract src).state ≠ .paced) :
    s.disableSource src = s.setContract src { s.contract src with state := .unpaced } :=
  if_neg h

/-- What DISABLE and BAR do first: the source leaves PACED, its timer stops, and its staged copy is applied (R41, R43). -/
def State.halt (s : State) (src : Fin 32) (st : SourceState) : State :=
  (s.setContract src { s.contract src with state := st, timer := .stopped }).applyStaged src

theorem halt_eq (s : State) (src : Fin 32) (st : SourceState) :
    ((s.setState src st).stopTimer src).applyStaged src = s.halt src st := by
  simp [State.setState, State.stopTimer, State.halt, setContract_setContract]

theorem disablePaced_eq (s : State) (src : Fin 32) :
    s.disablePaced src = ((s.halt src .unpaced).setHold src []).releaseList src (s.hold src) := by
  simp only [State.disablePaced, halt_eq]
  simp [State.halt]

/-- BAR refuses the two lists as one: the store does not read what a refusal writes (R43). -/
theorem barSource_eq (s : State) (src : Fin 32) (c : Fin 4) (hc : ((s.halt src .barred).contract src).settings.cls = c) :
    s.barSource src =
      (((s.halt src .barred).setHold src []).setQueue c ((s.queue c).filter fun r => r.source ≠ src)).refuseList .barred
        (s.hold src ++ (s.queue c).filter fun r => r.source = src) := by
  have hh : (s.halt src .barred).hold src = s.hold src := by simp [State.halt]
  have hq : (s.halt src .barred).queue c = s.queue c := by simp [State.halt]
  rw [refuseList_append, ← refuseList_setQueue]
  simp only [State.barSource, halt_eq, State.refuseList_frame, State.setHold_contract, State.setHold_queue, hc, hh, hq]

theorem armSource_eq (s : State) (src : Fin 32) :
    s.armSource src = ((s.applyStaged src).setContract src
      (((s.applyStaged src).contract src).started ((s.applyStaged src).contract src).edgeCount s.timeBase)).drainAndCheck src := by
  simp [State.armSource, startTimer_eq, State.setState, State.setBalance, setContract_setContract, Contract.started]

/-! ### The checks of a source command (R39) -/

theorem sourceCmd_ofCode_none {n : Nat} (h : n = 0 ∨ 5 < n) : SourceCmd.ofCode n = none := by
  unfold SourceCmd.ofCode
  split <;> first | omega | rfl

/-- The five source commands differ in the code they check and in their effect alone. -/
theorem exec_sourceCommand {f : Frame} {i : Instr} (h : i ∈ [Instr.enable f, .disable f, .bar f, .unbar f, .arm f]) :
    ∃ cmd effect, ∀ s, exec i s = s.manage 0x12#8 (judged f s (answerSource cmd effect f s)) := by
  simp only [List.mem_cons, List.not_mem_nil, or_false] at h
  rcases h with rfl | rfl | rfl | rfl | rfl <;> exact ⟨_, _, fun _ => rfl⟩

theorem answerSource_badIndex (cmd : SourceCmd) (effect : State → Fin 32 → State) {f : Frame} (s : State)
    (hi : 32 ≤ f.index.toNat) : answerSource cmd effect f s = refused .badIndex s := by
  simp only [answerSource, indexBelow_eq_none hi]

theorem answerSource_badLength (cmd : SourceCmd) (effect : State → Fin 32 → State) {f : Frame} (s : State)
    (hi : f.index.toNat < 32) (hl : f.len.toNat ≠ 1) : answerSource cmd effect f s = refused .badLength s := by
  simp only [answerSource, indexBelow_eq_some ⟨_, hi⟩ rfl, badLength_of_ne hl, if_true]

theorem answerSource_badValue (cmd : SourceCmd) (effect : State → Fin 32 → State) {f : Frame} (s : State)
    (hi : f.index.toNat < 32) (hl : f.len.toNat = 1) (hc : f.u8 0 = 0 ∨ 5 < f.u8 0) :
    answerSource cmd effect f s = refused .badValue s := by
  simp [answerSource, indexBelow_eq_some ⟨_, hi⟩ rfl, badLength_of_eq hl, sourceCmd_ofCode_none hc]

/-! ### The payload of a contract (R47 step 3, R184) -/

theorem mode_code_of_ofCode {n : Nat} {m : Mode} (h : Mode.ofCode n = some m) : m.code = n := by
  unfold Mode.ofCode at h
  split at h <;> cases h <;> rfl

theorem tickBase_code_of_ofCode {n : Nat} {b : TickBase} (h : TickBase.ofCode n = some b) : b.code = n := by
  unfold TickBase.ofCode at h
  split at h <;> cases h <;> rfl

theorem waitAction_code_of_ofCode {n : Nat} {a : WaitAction} (h : WaitAction.ofCode n = some a) : a.code = n := by
  unfold WaitAction.ofCode at h
  split at h <;> cases h <;> rfl

theorem val_of_indexBelow {n v : Nat} {i : Fin n} (h : indexBelow n v = some i) : i.val = v := by
  unfold indexBelow at h
  split at h <;> cases h
  rfl

/-- The coded settings of a payload. -/
structure Settings.CodedBy (x : Settings) (f : Frame) : Prop where
  mode : x.mode.code = f.u8 0
  cls : x.cls.val = f.u8 1
  tickBase : x.tickBase.code = f.u8 6
  triggerLine : x.triggerLine.val = f.u8 9
  waitAction : x.waitAction.code = f.u8 15

/-- The numbers of a payload. -/
structure Settings.CountedBy (x : Settings) (f : Frame) : Prop where
  budget : x.budget = f.u16 2
  carry : x.carry = f.u16 4
  periodCount : x.periodCount = f.u16 7
  edgesPerRefill : x.edgesPerRefill = f.u16 10
  holdLimit : x.holdLimit = f.u8 12
  waitLimit : x.waitLimit = f.u16 13

/-- A payload that gives settings has each field in its range, at its place in the layout. -/
theorem settings_of_ofFrame {f : Frame} {x : Settings} (h : Settings.ofFrame f = some x) :
    x.CodedBy f ∧ x.CountedBy f ∧
      1 ≤ f.u16 2 ∧ 1 ≤ f.u16 7 ∧ f.u16 7 ≤ 4096 ∧ 1 ≤ f.u16 10 ∧ f.u16 10 ≤ 256 ∧ f.u8 12 ≤ 32 := by
  unfold Settings.ofFrame at h
  split at h
  · next hm hc hb ht hw =>
    split at h
    · next hrange =>
      cases h
      exact ⟨⟨mode_code_of_ofCode hm, val_of_indexBelow hc, tickBase_code_of_ofCode hb, val_of_indexBelow ht,
        waitAction_code_of_ofCode hw⟩, ⟨rfl, rfl, rfl, rfl, rfl, rfl⟩, hrange⟩
    · cases h
  · cases h

theorem bytes2_u16 (f : Frame) (i : Nat) : bytes2 (f.u16 i) = [byteOf (f.u8 i), byteOf (f.u8 (i + 1))] := by
  simp only [Frame.u8, byteOf_toNat]
  exact bytes2_of_bytes _ _

/-- The bytes of settings read from a payload of 16 bytes are that payload (R52, R184). -/
theorem settings_bytes_of_ofFrame {f : Frame} {x : Settings} (h : Settings.ofFrame f = some x) (hlen : f.payload.length = 16) :
    x.bytes = f.payload := by
  obtain ⟨hcode, hcount, -⟩ := settings_of_ofFrame h
  rw [payload_eq_map_u8 f, hlen, Settings.bytes, hcode.mode, hcode.cls, hcode.tickBase, hcode.triggerLine, hcode.waitAction,
    hcount.budget, hcount.carry, hcount.periodCount, hcount.edgesPerRefill, hcount.holdLimit, hcount.waitLimit]
  simp only [bytes2_u16]
  rfl

theorem mode_code_le_two (m : Mode) : m.code ≤ 2 := by cases m <;> decide

theorem tickBase_code_le_three (b : TickBase) : b.code ≤ 3 := by cases b <;> decide

theorem waitAction_code_le_one (a : WaitAction) : a.code ≤ 1 := by cases a <;> decide

/-- A payload of CONTRACT_WRITE with a field or its ceiling out of range (R47 steps 3 and 4). -/
abbrev ContractOutOfRange (f : Frame) : Prop :=
  2 < f.u8 0 ∨ 3 < f.u8 1 ∨ f.u16 2 = 0 ∨ 3 < f.u8 6 ∨ f.u16 7 = 0 ∨ 4096 < f.u16 7 ∨ 3 < f.u8 9 ∨ f.u16 10 = 0 ∨
    256 < f.u16 10 ∨ 32 < f.u8 12 ∨ 1 < f.u8 15 ∨ f.u16 2 + f.u16 4 < 64 ∨ 65535 < f.u16 2 + f.u16 4

/-- Such a payload gives no settings with a legal ceiling. -/
theorem ceilingLegal_of_outOfRange {f : Frame} {x : Settings} (hbad : ContractOutOfRange f) (h : Settings.ofFrame f = some x) :
    x.ceilingLegal = false := by
  obtain ⟨hcode, hcount, hrange⟩ := settings_of_ofFrame h
  have hmode := hcode.mode ▸ mode_code_le_two x.mode
  have hcls := hcode.cls ▸ x.cls.isLt
  have hbase := hcode.tickBase ▸ tickBase_code_le_three x.tickBase
  have hline := hcode.triggerLine ▸ x.triggerLine.isLt
  have haction := hcode.waitAction ▸ waitAction_code_le_one x.waitAction
  rw [← Bool.not_eq_true, ceilingLegal_iff, hcount.budget, hcount.carry]
  omega

/-! ### The checks of CONTRACT_WRITE (R47, R48) -/

theorem exec_contractWrite {f : Frame} {s : State} (h : s.listening) (hlen : f.len.toNat ≤ 48) : exec (.contractWrite f) s =
    .next ((answerContractWrite f s).state.answered 0x11#8 (answerContractWrite f s).status (answerContractWrite f s).data) := by
  rw [← manage_listening h, ← judged_of_len_le s (answerContractWrite f s) hlen]
  rfl

theorem answerContractWrite_badIndex {f : Frame} (s : State) (hi : 32 ≤ f.index.toNat) :
    answerContractWrite f s = refused .badIndex s := by
  simp only [answerContractWrite, indexBelow_eq_none hi]

section contractWrite

variable {f : Frame} (s : State) {src : Fin 32} (hi : f.index.toNat = src.val)
include hi

theorem answerContractWrite_badLength (hl : f.len.toNat ≠ 16) : answerContractWrite f s = refused .badLength s := by
  simp only [answerContractWrite, indexBelow_eq_some src hi, badLength_of_ne hl, if_true]

/-- Past index and length, a payload that gives no settings with a legal ceiling is refused (R47 steps 3 and 4). -/
theorem answerContractWrite_badValue (hl : f.len.toNat = 16) (hbad : ∀ x, Settings.ofFrame f = some x → x.ceilingLegal = false) :
    answerContractWrite f s = refused .badValue s := by
  simp only [answerContractWrite, indexBelow_eq_some src hi, badLength_of_eq hl, Bool.false_eq_true, if_false]
  cases hx : Settings.ofFrame f with
  | none => rfl
  | some x => simp only [hbad x hx, Bool.not_false, if_true]

variable {x : Settings} (hl : f.len.toNat = 16) (hx : Settings.ofFrame f = some x) (hleg : x.ceilingLegal = true)
include hl hx hleg

/-- Past the ranges, the mode and class restrictions decide, and then the state of the source (R48 to R50). -/
theorem answerContractWrite_of_legal : answerContractWrite f s =
    if s.changeRefused src x then refused .state s
    else if (s.contract src).state = .paced then ⟨.staged, [], s.stageWrite src x⟩ else ⟨.ok, [], s.applyWrite src x⟩ := by
  simp only [answerContractWrite, indexBelow_eq_some src hi, badLength_of_eq hl, hx, hleg, Bool.not_true, Bool.false_eq_true,
    if_false]

end contractWrite

theorem changeRefused_of_unpaced {s : State} {src : Fin 32} (x : Settings) (h : (s.contract src).state = .unpaced) :
    s.changeRefused src x = true ↔ x.cls ≠ (s.contract src).settings.cls ∧ s.storesOf src = true := by
  simp [State.changeRefused, h, eq_comm (a := x.cls)]

theorem changeRefused_of_not_unpaced {s : State} {src : Fin 32} (x : Settings) (h : (s.contract src).state ≠ .unpaced) :
    s.changeRefused src x = true ↔ x.mode ≠ (s.contract src).settings.mode ∨ x.cls ≠ (s.contract src).settings.cls := by
  simp [State.changeRefused, h, eq_comm (a := x.cls), eq_comm (a := x.mode)]

/-! ### The statements -/

theorem contractWrite_checked_in_order (f : Frame) (s : State) (h : s.listening) (hlen : f.len.toNat ≤ 48) :
    (32 ≤ f.index.toNat → exec (.contractWrite f) s = .next (s.answered 0x11#8 .badIndex [])) ∧
    ∀ src : Fin 32, f.index.toNat = src.val →
      (f.len.toNat ≠ 16 → exec (.contractWrite f) s = .next (s.answered 0x11#8 .badLength [])) ∧
      (f.len.toNat = 16 → ContractOutOfRange f → exec (.contractWrite f) s = .next (s.answered 0x11#8 .badValue [])) ∧
      ∀ x, f.len.toNat = 16 → Settings.ofFrame f = some x → 64 ≤ x.budget + x.carry → x.budget + x.carry ≤ 65535 →
        s.changeRefused src x = true → exec (.contractWrite f) s = .next (s.answered 0x11#8 .state []) := by
  rw [exec_contractWrite h hlen]
  refine ⟨fun hi => ?_, fun src hi => ⟨fun hl => ?_, fun hl hbad => ?_, fun x hl hx hlo hhi hchange => ?_⟩⟩
  · rw [answerContractWrite_badIndex s hi]
    rfl
  · rw [answerContractWrite_badLength s hi hl]
    rfl
  · rw [answerContractWrite_badValue s hi hl fun _ => ceilingLegal_of_outOfRange hbad]
    rfl
  · rw [answerContractWrite_of_legal s hi hl hx ((ceilingLegal_iff x).2 ⟨hlo, hhi⟩), if_pos hchange]
    rfl

/-- A source command with an index, length or code out of range is refused before its state is looked at. -/
theorem sourceCommand_checked_in_order {f : Frame} {s : State} (h : s.listening) (hlen : f.len.toNat ≤ 48) {i : Instr}
    (hmem : i ∈ [Instr.enable f, .disable f, .bar f, .unbar f, .arm f]) :
    (32 ≤ f.index.toNat → exec i s = .next (s.answered 0x12#8 .badIndex [])) ∧
    (f.index.toNat < 32 → f.len.toNat ≠ 1 → exec i s = .next (s.answered 0x12#8 .badLength [])) ∧
    (f.index.toNat < 32 → f.len.toNat = 1 → f.u8 0 = 0 ∨ 5 < f.u8 0 → exec i s = .next (s.answered 0x12#8 .badValue [])) := by
  obtain ⟨cmd, effect, hexec⟩ := exec_sourceCommand hmem
  rw [hexec, judged_of_len_le s _ hlen, manage_listening h]
  refine ⟨fun hi => ?_, fun hi hl => ?_, fun hi hl hc => ?_⟩
  · rw [answerSource_badIndex cmd effect s hi]
    rfl
  · rw [answerSource_badLength cmd effect s hi hl]
    rfl
  · rw [answerSource_badValue cmd effect s hi hl hc]
    rfl

/-- Settles O36: each check is reached past the ones before it, and each refused state is one that the command's rule excludes. -/
theorem contractCommandsAreCheckedInOrder : Obligations.ContractCommandsAreCheckedInOrder := by
  refine ⟨fun f s h hlen => ?_, fun f s h hlen =>
    ⟨fun i hmem => sourceCommand_checked_in_order h hlen hmem, fun src hi hl => ?_⟩⟩
  · obtain ⟨hindex, hrest⟩ := contractWrite_checked_in_order f s h hlen
    refine ⟨hindex, fun src hi => ?_⟩
    obtain ⟨hlength, hvalue, hstate⟩ := hrest src hi
    refine ⟨hlength, hvalue, fun x hl hx hlo hhi => ⟨fun hst hch => ?_, fun hst hcls hstore => ?_⟩⟩
    · exact hstate x hl hx hlo hhi ((changeRefused_of_not_unpaced x hst).2 hch)
    · exact hstate x hl hx hlo hhi ((changeRefused_of_unpaced x hst).2 ⟨hcls, hstore⟩)
  · have hrefuse (cmd effect) (hcode : SourceCmd.ofCode (f.u8 0) = some cmd)
        (hnot : SourceCmd.allowed cmd (s.contract src) = false) :=
      answerSource_refuses_state cmd effect h hi hl hcode hnot
    refine ⟨fun hc hst => ?_, fun hc hst => ?_, fun hc hst => ?_, fun hc hst => ?_, fun hc hst => ?_⟩
    · exact hrefuse .enable _ (by rw [hc]; rfl) (by simpa [SourceCmd.allowed] using hst)
    · exact hrefuse .disable _ (by rw [hc]; rfl) (by rcases hst with hst | hst <;> simp [SourceCmd.allowed, hst])
    · exact hrefuse .bar _ (by rw [hc]; rfl) (by simpa [SourceCmd.allowed] using hst)
    · exact hrefuse .unbar _ (by rw [hc]; rfl) (by simpa [SourceCmd.allowed] using hst)
    · exact hrefuse .arm _ (by rw [hc]; rfl) (by rcases hst with hst | hst | hst <;> simp [SourceCmd.allowed, hst])

/-- Settles O37: no check refuses, so the state of the source decides between the two effects. -/
theorem contractWriteAppliesOrStages : Obligations.ContractWriteAppliesOrStages := by
  intro f s src x h hi hl hwf hx hlo hhi c hunpaced hother
  have hchange : s.changeRefused src x = false := by
    rw [← Bool.not_eq_true]
    by_cases hst : c.state = .unpaced
    · rw [changeRefused_of_unpaced x hst]
      rcases hunpaced hst with hcls | hstore
      · exact fun hbad => hbad.1 hcls
      · exact fun hbad => by simp [hstore] at hbad
    · rw [changeRefused_of_not_unpaced x hst]
      obtain ⟨hmode, hcls⟩ := hother hst
      exact fun hbad => hbad.elim (· hmode) (· hcls)
  have hanswer := answerContractWrite_of_legal s hi hl hx ((ceilingLegal_iff x).2 ⟨hlo, hhi⟩)
  simp only [hchange, Bool.false_eq_true, if_false] at hanswer
  rw [exec_contractWrite h (by omega), hanswer]
  refine ⟨settings_bytes_of_ofFrame hx (payload_length_of_wellFormed hwf hl (by decide)), fun hst => ?_, fun hst => ?_⟩
  · rw [if_neg hst, State.applyWrite, min_ceiling]
  · rw [if_pos hst, State.stageWrite]

/-- Settles O38: the effects are single writes of the source's contract. -/
theorem enablePacesAndUnbarUnpaces : Obligations.EnablePacesAndUnbarUnpaces := by
  intro f s src h hi hl c length unpaced
  have hrun (cmd effect) (hcode : SourceCmd.ofCode (f.u8 0) = some cmd)
      (hallowed : SourceCmd.allowed cmd (s.contract src) = true) :=
    answerSource_runs cmd effect h hi hl hcode hallowed
  refine ⟨fun hc hst => ?_, fun hc hst => ?_, fun hc hst => ?_⟩
  · refine (hrun .enable State.enableSource (by rw [hc]; rfl) (by simpa [SourceCmd.allowed] using hst)).trans ?_
    rw [enableSource_eq, Contract.started, Settings.freshTimer]
    cases (s.contract src).settings.mode <;> rfl
  · exact hrun .unbar State.unbarSource (by rw [hc]; rfl) (by simpa [SourceCmd.allowed] using hst)
  · have hspent : (s.contract src).state = .spent := hst
    refine (hrun .disable State.disableSource (by rw [hc]; rfl) (by simp [SourceCmd.allowed, hspent])).trans ?_
    rw [disableSource_of_not_paced (by rw [hspent]; decide)]

/-- Settles O39: the released list is counted one request at a time, and joins the queue as a whole. -/
theorem disableReleasesTheList : Obligations.DisableReleasesTheList := by
  intro f s src h hi hl hc hst a c
  have hrun := answerSource_runs .disable State.disableSource h hi hl (by rw [hc]; rfl) (by simp [SourceCmd.allowed, hst])
  rw [disableSource_of_paced hst, disablePaced_eq] at hrun
  obtain ⟨heq, hcount, hothers, -⟩ := releaseList_spec src (s.hold src) (a.setHold src [])
  have hq : a.queue c = s.queue c := by simp [a]
  have hsrc : ∀ i, a.srcCount i = s.srcCount i := by simp [a]
  refine ⟨_, hrun, ?_, ?_, ?_, ?_⟩
  · rw [State.setHold_contract, State.setHold_queue, hq] at heq
    exact congrArg (fun t => t.answered 0x12#8 .ok []) heq
  · rw [← hsrc src]
    exact hcount
  · intro i hne
    rw [← hsrc i]
    exact hothers i hne
  · exact releaseList_evq src (s.hold src) (a.setHold src []) a (fun _ => rfl) rfl rfl rfl

/-- Settles O40: the two refused lists are one list, refused over the store as BAR leaves it. -/
theorem barRefusesHeldAndQueued : Obligations.BarRefusesHeldAndQueued := by
  intro f s src h hi hl hc hst a c held own
  have hrun := answerSource_runs .bar State.barSource h hi hl (by rw [hc]; rfl) (by simpa [SourceCmd.allowed] using hst)
  rw [barSource_eq s src c rfl] at hrun
  refine ⟨_, hrun, rfl, ?_⟩
  refine (State.refuseList_returnQ _ _ _).trans ?_
  rw [State.setQueue_returnQ, State.setHold_returnQ]
  simp only [State.halt, State.applyStaged_frame, State.setContract_returnQ]
  rfl

/-- Settles O41: a staged copy of a ONE_SHOT contract is ONE_SHOT, so the timer started is a window's. -/
theorem armStartsAWindow : Obligations.ArmStartsAWindow := by
  intro f s src h hi hl hc hst hmode hstaged a c
  have hallowed : SourceCmd.allowed .arm (s.contract src) = true := by
    rcases hst with hst | hst <;> simp [SourceCmd.allowed, hst, hmode]
  have hrun := answerSource_runs .arm State.armSource h hi hl (by rw [hc]; rfl) hallowed
  have hwindow : c.settings.mode = .oneShot := by
    simp only [c, a]
    cases hx : (s.contract src).staged with
    | none => rw [applyStaged_of_none hx]; exact hmode
    | some x => simp [applyStaged_of_some hx, hstaged x hx]
  refine hrun.trans ?_
  rw [armSource_eq, Contract.started, Settings.freshTimer]
  simp only [show ((s.applyStaged src).contract src).settings.mode = .oneShot from hwindow]
  rfl

end Sys2Proof.Machine
end

section
/-! What a command does to contracts, lines and the Request Store, as a chain of moves: each move is one that the rules name, and whole in
itself, so that a law of the reachable states is proved once for each move. -/

namespace Sys2Proof.Machine

/-! ### Moves of one contract -/

/-- A contract whose staged copy, if one is present, has been applied (R37). -/
def Contract.applied (c : Contract) : Contract :=
  match c.staged with
  | none => c
  | some x => { c with settings := x, staged := none, balance := min c.balance x.ceiling }

theorem Contract.applied_of_none {c : Contract} (h : c.staged = none) : c.applied = c := by
  simp only [applied, h]

theorem Contract.applied_of_some {c : Contract} {x : Settings} (h : c.staged = some x) :
    c.applied = { c with settings := x, staged := none, balance := min c.balance x.ceiling } := by
  simp only [applied, h]

@[simp] theorem Contract.applied_staged (c : Contract) : c.applied.staged = none := by
  cases h : c.staged with
  | none => rw [applied_of_none h, h]
  | some x => rw [applied_of_some h]

@[simp] theorem Contract.applied_state (c : Contract) : c.applied.state = c.state := by
  cases h : c.staged with
  | none => rw [applied_of_none h]
  | some x => rw [applied_of_some h]

@[simp] theorem Contract.applied_timer (c : Contract) : c.applied.timer = c.timer := by
  cases h : c.staged with
  | none => rw [applied_of_none h]
  | some x => rw [applied_of_some h]

/-- Applying a staged copy reads neither the state nor the timer of its contract. -/
theorem Contract.applied_with (c : Contract) (st : SourceState) (τ : Timer) :
    ({ c with state := st, timer := τ } : Contract).applied = { c.applied with state := st, timer := τ } := by
  cases h : c.staged with
  | none => simp only [applied, h]
  | some x => simp only [applied, h]

theorem applyStaged_contract_applied (s : State) (src i : Fin 32) :
    (s.applyStaged src).contract i = if i = src then (s.contract src).applied else s.contract i := by
  rw [State.applyStaged_contract]
  cases h : (s.contract src).staged with
  | none => rw [Contract.applied_of_none h]
  | some x => rw [Contract.applied_of_some h]

theorem halt_contract (s : State) (src i : Fin 32) (st : SourceState) :
    (s.halt src st).contract i =
      if i = src then { (s.contract src).applied with state := st, timer := .stopped } else s.contract i := by
  rw [State.halt, applyStaged_contract_applied]
  split
  · rw [State.setContract_contract_self, Contract.applied_with]
  · rw [State.setContract_contract_ne _ _ _ _ ‹_›]

/-- What the rules do to a contract, but for a CONTRACT_WRITE that is applied. -/
inductive Contract.Move (c : Contract) : Contract → Prop
  /-- A staged copy is applied (R37). -/
  | applied : Move c c.applied
  /-- Charges leave the balance (R66, R70). -/
  | lowered (b : Nat) (h : b ≤ c.balance) : Move c { c with balance := b }
  /-- A boundary refills the balance up to the ceiling, of a source that is PACED or has its timer running (R93, R94). -/
  | refilled (b : Nat) (h : b ≤ c.settings.ceiling) (hp : c.state = .paced ∨ c.timer ≠ .stopped) : Move c { c with balance := b }
  /-- A running timer starts its next period (R92). -/
  | nextPeriod (m : Measure) (start start' : Time) (length length' : Nat) (h : c.timer = .running m start length) :
      Move c { c with timer := .running m start' length' }
  /-- Qualifying edges are counted (R95, R103). -/
  | counted (n : Nat) : Move c { c with edgeCount := n }
  /-- A window ends (R96). -/
  | ended (start : Time) (length : Nat) (h : c.timer = .running .window start length) :
      Move c { c.applied with state := .spent, balance := 0, timer := .stopped }
  /-- CONTRACT_WRITE in PACED, within the mode and class restrictions (R48, R50). -/
  | staged (x : Settings) (hp : c.state = .paced) (hx : x.ceilingLegal = true) (hm : x.mode = c.settings.mode)
      (hc : x.cls = c.settings.cls) : Move c { c with staged := some x }
  /-- ENABLE, ARM past its staged copy, and the same of TRAFFIC_RESET (R40, R46, R57). -/
  | started (edges : Nat) (now : Time) : Move c (c.started edges now)
  /-- DISABLE in PACED, and BAR (R41, R43). -/
  | halted (st : SourceState) (h : st = .unpaced ∨ st = .barred) : Move c { c.applied with state := st, timer := .stopped }
  /-- DISABLE in SPENT, and UNBAR (R42, R45). -/
  | unpaced (h : c.state ≠ .paced) : Move c { c with state := .unpaced }

/-! ### Moves of one trigger line -/

/-- What the rules do to a trigger line (R101, R105). -/
inductive Line.Move (l : Line) : Line → Prop
  | configured (edge : EdgeSetting) (filter : Nat) : Move l { l with edge := edge, filter := filter }
  | returned : Move l { l with pin := l.settled, transition := none }
  | pended (level : Level) (now : Time) (h : level ≠ l.settled) : Move l { l with pin := level, transition := some (level, now) }
  | restarted (level : Level) (seen now : Time) (h : l.transition = some (level, seen)) :
      Move l { l with transition := some (level, now) }
  | settled (level : Level) (seen : Time) (h : l.transition = some (level, seen)) :
      Move l { l with settled := level, transition := none }
  | settledAtOnce (level : Level) : Move l { l with pin := level, settled := level, transition := none }

/-! ### Moves of the part -/

/-- The fields that the laws of timers, lines, port and store speak of are the same. -/
structure State.SameTables (s t : State) : Prop where
  resetN : t.resetN = s.resetN := by rfl
  port : t.port = s.port := by rfl
  portIgnore : t.portIgnore = s.portIgnore := by rfl
  contract : ∀ i, t.contract i = s.contract i := by exact fun _ => rfl
  hold : ∀ i, t.hold i = s.hold i := by exact fun _ => rfl
  queue : ∀ c, t.queue c = s.queue c := by exact fun _ => rfl
  line : ∀ n, t.line n = s.line n := by exact fun _ => rfl

namespace State.SameTables

theorem refl (s : State) : s.SameTables s := {}

theorem trans {s t u : State} (h : s.SameTables t) (h' : t.SameTables u) : s.SameTables u where
  resetN := h'.resetN.trans h.resetN
  port := h'.port.trans h.port
  portIgnore := h'.portIgnore.trans h.portIgnore
  contract i := (h'.contract i).trans (h.contract i)
  hold i := (h'.hold i).trans (h.hold i)
  queue c := (h'.queue c).trans (h.queue c)
  line n := (h'.line n).trans (h.line n)

/-- The seven fields together, as the frame lemmas give them. -/
theorem of_frame {s t : State} (h : t.resetN = s.resetN ∧ t.port = s.port ∧ t.portIgnore = s.portIgnore ∧
    (∀ i, t.contract i = s.contract i) ∧ (∀ i, t.hold i = s.hold i) ∧ (∀ c, t.queue c = s.queue c) ∧ ∀ n, t.line n = s.line n) :
    s.SameTables t := by
  obtain ⟨hr, hp, hi, hc, hh, hq, hl⟩ := h
  exact ⟨hr, hp, hi, hc, hh, hq, hl⟩

end State.SameTables

/-- All requests that stand in the Request Store (R59). -/
def State.stored (s : State) : Multiset StoredReq :=
  (∑ src, (s.hold src : Multiset StoredReq)) + ∑ c, (s.queue c : Multiset StoredReq)

/-- The oldest `k` requests of a hold list join the tail of their class queue (R41, R69, R70, R75). -/
def State.release (s : State) (src : Fin 32) (k : Nat) : State :=
  (s.setHold src ((s.hold src).drop k)).setQueue (s.contract src).settings.cls
    (s.queue (s.contract src).settings.cls ++ (s.hold src).take k)

/-- The store with every list and queue empty (R18, R83). -/
def State.emptyStore (s : State) : State := { s with holds := Vector.replicate 32 [], queues := Vector.replicate 4 [] }

/-- What a command can do to contracts, lines and store; a chain of these is what it does. -/
inductive State.Move (s t : State) : Prop
  /-- The laws' tables are left alone. -/
  | same (h : s.SameTables t)
  /-- One contract moves. -/
  | contract (src : Fin 32) (c : Contract) (hm : (s.contract src).Move c) (h : (s.setContract src c).SameTables t)
  /-- CONTRACT_WRITE outside PACED, within the mode and class restrictions (R48, R49). -/
  | written (src : Fin 32) (x : Settings) (hp : (s.contract src).state ≠ .paced) (hx : x.ceilingLegal = true)
      (hr : s.changeRefused src x = false) (h : (s.applyWrite src x).SameTables t)
  /-- The oldest requests of a hold list leave it for the class queue. -/
  | released (src : Fin 32) (k : Nat) (h : (s.release src k).SameTables t)
  /-- The oldest requests of a hold list leave the store (R74, R96, R43). -/
  | dropped (src : Fin 32) (k : Nat) (h : (s.setHold src ((s.hold src).drop k)).SameTables t)
  /-- Requests leave a dispatch queue (R43, R118). -/
  | left (c : Fin 4) (l : List StoredReq) (hl : l.Sublist (s.queue c)) (h : (s.setQueue c l).SameTables t)
  /-- A request in a slot that was FREE joins its class queue (R65, R66). -/
  | queued (r : StoredReq) (hr : ∀ x ∈ s.stored, x.slot ≠ r.slot) (h : (s.enqueue r.source r).SameTables t)
  /-- A request in a slot that was FREE joins its hold list (R67). -/
  | held (r : StoredReq) (hr : ∀ x ∈ s.stored, x.slot ≠ r.slot)
      (h : (s.setHold r.source (s.hold r.source ++ [r])).SameTables t)
  /-- The store is emptied (R18, R83). -/
  | emptied (h : s.emptyStore.SameTables t)
  /-- One trigger line moves. -/
  | line (n : Fin 4) (l : Line) (hm : (s.line n).Move l) (h : (s.setLine n l).SameTables t)
  /-- While RESET_N is low a trigger pin moves and no more (R106). -/
  | pin (n : Fin 4) (level : Level) (hr : s.resetN = .low) (h : (s.setLine n { s.line n with pin := level }).SameTables t)

/-- A chain of moves. -/
def State.Moves (s t : State) : Prop := Relation.ReflTransGen State.Move s t

namespace State.Moves

theorem refl (s : State) : s.Moves s := Relation.ReflTransGen.refl

theorem trans {s t u : State} (h : s.Moves t) (h' : t.Moves u) : s.Moves u := Relation.ReflTransGen.trans h h'

theorem of_move {s t : State} (h : s.Move t) : s.Moves t := Relation.ReflTransGen.single h

theorem of_same {s t : State} (h : s.SameTables t) : s.Moves t := of_move (.same h)

/-- One contract written by a move. -/
theorem of_contract {s t : State} (src : Fin 32) {c : Contract} (hm : (s.contract src).Move c)
    (h : (s.setContract src c).SameTables t) : s.Moves t :=
  of_move (.contract src c hm h)

/-- One trigger line written by a move. -/
theorem of_line {s : State} (n : Fin 4) {l : Line} (hm : (s.line n).Move l) : s.Moves (s.setLine n l) :=
  of_move (.line n l hm (.refl _))

/-- A property that every move keeps is kept by a chain of moves. -/
theorem keeps {P : State → Prop} (hmove : ∀ {s t : State}, s.Move t → P s → P t) {s t : State} (h : s.Moves t) (hs : P s) : P t := by
  induction h with
  | refl => exact hs
  | tail _ hm ih => exact hmove hm ih

end State.Moves

/-! ### Contracts -/

theorem applyStaged_moves (s : State) (src : Fin 32) : s.Moves (s.applyStaged src) := by
  refine .of_contract src .applied (.of_frame ?_)
  simp [applyStaged_contract_applied, State.setContract_contract]

theorem refill_moves {s : State} {src : Fin 32} (h : (s.contract src).state = .paced ∨ (s.contract src).timer ≠ .stopped) :
    s.Moves (s.refill src) :=
  .of_contract src (.refilled _ (Nat.min_le_right _ _) h) (.refl _)

theorem setEdgeCount_moves (s : State) (src : Fin 32) (n : Nat) : s.Moves (s.setEdgeCount src n) :=
  .of_contract src (.counted n) (.refl _)

theorem nextPeriod_moves (s : State) (src : Fin 32) : s.Moves (s.nextPeriod src) := by
  unfold State.nextPeriod
  split
  · exact .of_contract src (.nextPeriod _ _ _ _ _ ‹_›) (.refl _)
  · exact setEdgeCount_moves s src 0

theorem enableSource_moves (s : State) (src : Fin 32) : s.Moves (s.enableSource src) := by
  rw [enableSource_eq]
  exact .of_contract src (.started 0 s.timeBase) (.refl _)

theorem unbarSource_moves {s : State} {src : Fin 32} (h : (s.contract src).state ≠ .paced) : s.Moves (s.unbarSource src) :=
  .of_contract src (.unpaced h) (.refl _)

theorem halt_moves (s : State) (src : Fin 32) {st : SourceState} (h : st = .unpaced ∨ st = .barred) : s.Moves (s.halt src st) := by
  refine .of_contract src (.halted st h) (.of_frame ?_)
  simp only [halt_contract, State.setContract_contract]
  simp [State.halt]

/-- TRAFFIC_RESET starts a PACED contract afresh (R57). -/
theorem restartContract_of_paced {s : State} {src : Fin 32} (h : (s.contract src).state = .paced) :
    s.restartContract src =
      (s.applyStaged src).setContract src (((s.applyStaged src).contract src).started 0 s.timeBase) := by
  simp [State.restartContract, h, startTimer_eq, State.setBalance, State.setEdgeCount, setContract_setContract, Contract.started,
    applyStaged_contract_applied]

theorem restartContract_moves (s : State) (src : Fin 32) : s.Moves (s.restartContract src) := by
  by_cases hp : (s.contract src).state = .paced
  · rw [restartContract_of_paced hp]
    exact (applyStaged_moves s src).trans (.of_contract src (.started 0 s.timeBase) (.refl _))
  · rw [State.restartContract, if_neg hp]
    exact .refl s

theorem restartContracts_moves (s : State) (l : List (Fin 32)) : s.Moves (s.restartContracts l) := by
  induction l generalizing s with
  | nil => exact .refl s
  | cons src rest ih => exact (restartContract_moves s src).trans (ih _)

/-! ### The drain and the head check -/

@[simp] theorem release_hold (s : State) (src i : Fin 32) (k : Nat) :
    (s.release src k).hold i = if i = src then (s.hold src).drop k else s.hold i := by
  rw [State.release, State.setQueue_hold, State.setHold_hold]

@[simp] theorem release_queue (s : State) (src : Fin 32) (k : Nat) (c : Fin 4) :
    (s.release src k).queue c = if c = (s.contract src).settings.cls
      then s.queue (s.contract src).settings.cls ++ (s.hold src).take k else s.queue c := by
  rw [State.release, State.setQueue_queue, State.setHold_queue]

/-- What a release leaves alone. -/
@[simp] theorem release_frame (s : State) (src : Fin 32) (k : Nat) :
    (s.release src k).resetN = s.resetN ∧ (s.release src k).port = s.port ∧ (s.release src k).portIgnore = s.portIgnore ∧
    (∀ i, (s.release src k).contract i = s.contract i) ∧ ∀ n, (s.release src k).line n = s.line n :=
  ⟨rfl, rfl, rfl, fun _ => rfl, fun _ => rfl⟩

/-- The drain releases requests and takes their charges from the balance (R70). -/
theorem drain_moves (s : State) (src : Fin 32) : s.Moves (s.drain src) := by
  obtain ⟨k, -, hhold, hcontract, hqueue, -, -⟩ := State.drain_spec s src
  have hrelease : s.Moves (s.release src k) := .of_move (.released src k (.refl _))
  have hcharge := Contract.Move.lowered (c := s.contract src) _ (Nat.sub_le _ (((s.hold src).take k).map StoredReq.charge).sum)
  refine hrelease.trans (.of_contract src hcharge (.of_frame ?_))
  simp [hhold, hcontract, hqueue, State.setContract_contract]

/-- An expired head is refused and leaves the store, or is released (R74, R75). -/
theorem expireHead_moves {s : State} {src : Fin 32} {r : StoredReq} {rest : List StoredReq} (h : s.hold src = r :: rest) :
    s.Moves (s.expireHead src r rest) := by
  unfold State.expireHead
  split
  · exact .of_move (.dropped src 1 (.of_frame (by simp [h])))
  · exact .of_move (.released src 1 (.of_frame (by simp [h, State.setHold_hold, State.enqueue_queue])))

theorem cascadeFuel_moves (src : Fin 32) (n : Nat) (s : State) : s.Moves (State.cascadeFuel src n s) := by
  induction n generalizing s with
  | zero => exact .refl s
  | succ n ih =>
    unfold State.cascadeFuel
    split
    · exact .refl s
    · split
      · exact ((expireHead_moves ‹_›).trans (drain_moves _ src)).trans (ih _)
      · exact .refl s

theorem headCheck_moves (s : State) (src : Fin 32) : s.Moves (s.headCheck src) := cascadeFuel_moves src _ s

theorem drainAndCheck_moves (s : State) (src : Fin 32) : s.Moves (s.drainAndCheck src) :=
  (drain_moves s src).trans (headCheck_moves _ src)

/-! ### Boundaries, window ends and edges -/

/-- A boundary of a source that is PACED, or has its timer running (R93). -/
theorem takeBoundary_moves {s : State} {src : Fin 32} (h : (s.contract src).state = .paced ∨ (s.contract src).timer ≠ .stopped) :
    s.Moves (s.takeBoundary src) := by
  have hrefill : (s.applyStaged src).Moves ((s.applyStaged src).refill src) :=
    refill_moves (by simpa [applyStaged_contract_applied] using h)
  exact (((applyStaged_moves s src).trans hrefill).trans (nextPeriod_moves _ src)).trans (drainAndCheck_moves _ src)

theorem takeWindowEnd_contract (s : State) (src i : Fin 32) :
    (s.takeWindowEnd src).contract i = if i = src
      then { (s.contract src).applied with state := .spent, balance := 0, timer := .stopped } else s.contract i := by
  have hhalt : (s.stopTimer src).applyStaged src = s.halt src (s.contract src).state := rfl
  by_cases hi : i = src
  · simp [State.takeWindowEnd, State.setState_contract, State.setBalance_contract, hhalt, halt_contract, hi]
  · simp [State.takeWindowEnd, State.setState_contract, State.setBalance_contract, hhalt, halt_contract, hi]

/-- A window end spends the source and refuses its hold list (R96). -/
theorem takeWindowEnd_moves {s : State} {src : Fin 32} {start : Time} {length : Nat}
    (h : (s.contract src).timer = .running .window start length) : s.Moves (s.takeWindowEnd src) := by
  refine .trans (.of_contract src (.ended start length h) (.refl _)) (.of_move (.dropped src (s.hold src).length (.of_frame ?_)))
  simp only [takeWindowEnd_contract]
  simp [State.takeWindowEnd, State.setContract_contract, State.setHold_hold]

theorem countEdge_moves (s : State) (n : Fin 4) (src : Fin 32) : s.Moves (s.countEdge n src) := by
  simp only [State.countEdge]
  split
  · rename_i hbound
    have hcount := setEdgeCount_moves s src ((s.contract src).edgeCount + 1)
    split
    · exact hcount.trans (takeBoundary_moves (.inl (by simpa [State.setEdgeCount_contract] using hbound.1)))
    · exact hcount
  · exact .refl s

theorem countEdges_moves (s : State) (n : Fin 4) (l : List (Fin 32)) : s.Moves (s.countEdges n l) := by
  induction l generalizing s with
  | nil => exact .refl s
  | cons src rest ih => exact (countEdge_moves s n src).trans (ih _)

/-! ### Trigger lines -/

/-- A qualifying edge follows, or does not, once the line has settled (R101, R102). -/
theorem settle_moves_of_line {s u : State} {n : Fin 4} {level : Level}
    (h : s.Moves (u.setLine n { u.line n with settled := level, transition := none })) : s.Moves (u.settle n level) := by
  simp only [State.settle]
  split
  · exact h.trans (countEdges_moves _ n _)
  · exact h

theorem settle_moves {s : State} {n : Fin 4} {level : Level} {seen : Time} (h : (s.line n).transition = some (level, seen)) :
    s.Moves (s.settle n level) :=
  settle_moves_of_line (.of_line n (.settled level seen h))

theorem pinChange_moves (s : State) (n : Fin 4) (level : Level) : s.Moves (s.pinChange n level) := by
  simp only [State.pinChange]
  split
  · rename_i hlevel
    rw [hlevel]
    exact .of_line n .returned
  · split
    · refine settle_moves_of_line ?_
      rw [State.setLine_line_self, setLine_setLine]
      exact .of_line n (.settledAtOnce level)
    · exact .of_line n (.pended level s.timeBase ‹_›)

theorem writeLine_moves (s : State) (n : Fin 4) (edge : EdgeSetting) (filter : Nat) : s.Moves (s.writeLine n edge filter) := by
  have hset : s.Moves (s.setLine n { s.line n with edge := edge, filter := filter }) := .of_line n (.configured edge filter)
  simp only [State.writeLine]
  split
  · exact hset
  · rename_i level seen hpending
    have hline : ((s.setLine n { s.line n with edge := edge, filter := filter }).line n).transition = some (level, seen) := by
      rw [State.setLine_line_self, ← hpending]
    split
    · exact hset.trans (settle_moves hline)
    · have hrestart := hset.trans (.of_line n (.restarted level seen s.timeBase hline))
      rw [setLine_setLine, State.setLine_line_self] at hrestart
      exact hrestart

/-! ### Source commands and TRAFFIC_RESET -/

theorem releaseList_sameTables (s : State) (src : Fin 32) (l : List StoredReq) :
    (s.setQueue (s.contract src).settings.cls (s.queue (s.contract src).settings.cls ++ l)).SameTables (s.releaseList src l) := by
  rw [(releaseList_spec src l s).1]
  exact {}

theorem disableSource_moves (s : State) (src : Fin 32) : s.Moves (s.disableSource src) := by
  by_cases hp : (s.contract src).state = .paced
  · rw [disableSource_of_paced hp, disablePaced_eq]
    have hhold : (s.halt src .unpaced).hold src = s.hold src := by simp [State.halt]
    refine (halt_moves s src (.inl rfl)).trans (.of_move (.released src (s.hold src).length ?_))
    rw [State.release, hhold, List.drop_length, List.take_length]
    exact releaseList_sameTables _ src (s.hold src)
  · rw [disableSource_of_not_paced hp]
    exact .of_contract src (.unpaced hp) (.refl _)

theorem barSource_moves (s : State) (src : Fin 32) : s.Moves (s.barSource src) := by
  rw [barSource_eq s src _ rfl]
  generalize hc : ((s.halt src .barred).contract src).settings.cls = c
  have hhalt := halt_moves s src (st := .barred) (.inr rfl)
  have hdrop : (s.halt src .barred).Moves ((s.halt src .barred).setHold src []) :=
    .of_move (.dropped src (s.hold src).length (.of_frame (by simp [State.halt])))
  refine (hhalt.trans hdrop).trans
    (.of_move (.left c ((s.queue c).filter fun r => r.source ≠ src) ?_ (.of_frame (by simp [State.setQueue_queue]))))
  simp [State.halt]

theorem armSource_moves (s : State) (src : Fin 32) : s.Moves (s.armSource src) := by
  rw [armSource_eq]
  exact ((applyStaged_moves s src).trans (.of_contract src (.started _ _) (.refl _))).trans (drainAndCheck_moves _ src)

theorem resetTraffic_moves (s : State) : s.Moves s.resetTraffic := by
  have hempty : s.Moves s.abortTraffic := by
    refine .of_move (.emptied (.of_frame ?_))
    simp [State.abortTraffic, State.emptyStore, State.contract, State.hold, State.queue, State.line]
  exact hempty.trans (restartContracts_moves _ _)

end Sys2Proof.Machine
end

section
/-! The moves of every command: a chain of moves, the power-on values, or what a fall of RESET_N leaves. -/

namespace Sys2Proof.Machine

open State (Moves)

/-! ### Management commands -/

theorem manage_moves {s t : State} {opcode : Byte} {a : Answer} (ha : s.Moves a.state) (h : s.manage opcode a = .next t) :
    s.Moves t := by
  by_cases hl : s.listening
  · rw [manage_listening hl] at h
    cases h
    exact ha.trans (.of_same {})
  · rw [manage_not_listening hl] at h
    cases h
    exact .refl s

/-- A command with its length judged first (R173). -/
theorem manage_judged_moves {s t : State} {opcode : Byte} {f : Frame} {a : Answer} (ha : s.Moves a.state)
    (h : s.manage opcode (judged f s a) = .next t) : s.Moves t := by
  refine manage_moves ?_ h
  unfold judged
  split
  · exact .refl s
  · exact ha

/-- A command that writes none of the laws' tables. -/
theorem manage_judged_same {s t : State} {opcode : Byte} {f : Frame} {a : Answer} (ha : s.SameTables a.state)
    (h : s.manage opcode (judged f s a) = .next t) : s.Moves t :=
  manage_judged_moves (.of_same ha) h

/-- A command that only reads. -/
theorem manage_judged_read {s t : State} {opcode : Byte} {f : Frame} {a : Answer} (ha : a.state = s)
    (h : s.manage opcode (judged f s a) = .next t) : s.Moves t :=
  manage_judged_moves (ha ▸ .refl s) h

/-- A source command has its effect where its state and mode are allowed (R39). -/
theorem answerSource_moves {cmd : SourceCmd} {effect : State → Fin 32 → State} {s : State}
    (he : ∀ src, SourceCmd.allowed cmd (s.contract src) = true → s.Moves (effect s src)) (f : Frame) :
    s.Moves (answerSource cmd effect f s).state := by
  unfold answerSource
  repeat' split
  any_goals exact .refl s
  rename_i hallowed
  exact he _ (by simpa using hallowed)

/-- CONTRACT_WRITE within its restrictions is staged in PACED, and applied in the other states (R49, R50). -/
theorem answerContractWrite_moves (s : State) (f : Frame) : s.Moves (answerContractWrite f s).state := by
  unfold answerContractWrite
  repeat' split
  any_goals exact .refl s
  · rename_i src _ _ _ x _ hlegal hchange hp
    rw [changeRefused_of_not_unpaced x (by simp [hp]), not_or, not_not, not_not] at hchange
    exact .of_contract src (.staged x hp (by simpa using hlegal) hchange.1 hchange.2) (.refl _)
  · rename_i src _ _ _ x _ hlegal hchange hp
    exact .of_move (.written src x hp (by simpa using hlegal) (by simpa using hchange) (.refl _))

theorem answerLineWrite_moves (s : State) (f : Frame) : s.Moves (answerLineWrite f s).state := by
  unfold answerLineWrite
  repeat' split
  any_goals exact .refl s
  exact writeLine_moves s _ _ _

theorem answerTrafficReset_moves (s : State) (f : Frame) : s.Moves (answerTrafficReset f s).state := by
  unfold answerTrafficReset
  split
  · exact .refl s
  · dsimp only
    exact resetTraffic_moves s

theorem answerCounters_sameTables (s : State) (f : Frame) {after : State → Group → State} (h : ∀ g, s.SameTables (after s g)) :
    s.SameTables (answerCounters after f s).state := by
  unfold answerCounters
  repeat' split
  any_goals exact .refl s
  exact h _

theorem clearGroup_sameTables (s : State) (g : Group) : s.SameTables (s.clearGroup g) := by
  cases g <;> exact {}

theorem answerClassWrite_sameTables (s : State) (f : Frame) : s.SameTables (answerClassWrite f s).state := by
  unfold answerClassWrite
  repeat' split
  any_goals exact .refl s
  all_goals
    simp only [State.writeClass]
    split <;> exact .of_frame (by simp)

theorem answerStatus_sameTables (s : State) (f : Frame) : s.SameTables (answerStatus f s).state := by
  unfold answerStatus
  split <;> exact {}

theorem answerGlobalWrite_sameTables (s : State) (f : Frame) : s.SameTables (answerGlobalWrite f s).state := by
  unfold answerGlobalWrite
  repeat' split
  all_goals exact {}

theorem answerRegionWrite_sameTables (s : State) (f : Frame) : s.SameTables (answerRegionWrite f s).state := by
  unfold answerRegionWrite
  repeat' split
  all_goals exact {}

theorem answerEventRelease_sameTables (s : State) (f : Frame) : s.SameTables (answerEventRelease f s).state := by
  unfold answerEventRelease
  repeat' split
  all_goals exact {}

/-- The commands of the management port. -/
theorem exec_management_moves {c : Instr} {s t : State} (hc : c.frame?.isSome = true) (h : exec c s = .next t) : s.Moves t := by
  cases c with
  | enable f => exact manage_judged_moves (answerSource_moves (fun src _ => enableSource_moves s src) f) h
  | disable f => exact manage_judged_moves (answerSource_moves (fun src _ => disableSource_moves s src) f) h
  | bar f => exact manage_judged_moves (answerSource_moves (fun src _ => barSource_moves s src) f) h
  | unbar f =>
    refine manage_judged_moves (answerSource_moves (fun src hallowed => unbarSource_moves ?_) f) h
    rw [of_decide_eq_true hallowed]
    decide
  | arm f => exact manage_judged_moves (answerSource_moves (fun src _ => armSource_moves s src) f) h
  | contractWrite f => exact manage_judged_moves (answerContractWrite_moves s f) h
  | lineWrite f => exact manage_judged_moves (answerLineWrite_moves s f) h
  | trafficReset f => exact manage_judged_moves (answerTrafficReset_moves s f) h
  | classWrite f => exact manage_judged_same (answerClassWrite_sameTables s f) h
  | countersRead f => exact manage_judged_same (answerCounters_sameTables s f fun _ => .refl s) h
  | countersReadClear f => exact manage_judged_same (answerCounters_sameTables s f (clearGroup_sameTables s)) h
  | status f => exact manage_judged_same (answerStatus_sameTables s f) h
  | globalWrite f => exact manage_judged_same (answerGlobalWrite_sameTables s f) h
  | regionWrite f => exact manage_judged_same (answerRegionWrite_sameTables s f) h
  | eventRelease f => exact manage_judged_same (answerEventRelease_sameTables s f) h
  | unknownOpcode o f => exact manage_moves (.refl s) h
  | identify f => exact manage_judged_read (answerIdentify_state f s) h
  | timeRead f => exact manage_judged_read (answerTimeRead_state f s) h
  | globalRead f => exact manage_judged_read (answerGlobalRead_state f s) h
  | eventRead f => exact manage_judged_read (answerEventRead_state f s) h
  | contractRead f => exact manage_judged_read (answerContractRead_state f s) h
  | holdRead f => exact manage_judged_read (answerHoldRead_state f s) h
  | regionRead f => exact manage_judged_read (answerRegionRead_state f s) h
  | classRead f => exact manage_judged_read (answerClassRead_state f s) h
  | lineRead f => exact manage_judged_read (answerLineRead_state f s) h
  | _ => cases hc

/-! ### Requests and completions -/

/-- A request stands in the store where it stands in a hold list or a dispatch queue. -/
theorem mem_stored {s : State} {r : StoredReq} : r ∈ s.stored ↔ (∃ src, r ∈ s.hold src) ∨ ∃ c, r ∈ s.queue c := by
  simp [State.stored, Multiset.mem_sum]

/-- A FREE slot holds no request (R59, R60). -/
theorem slot_ne_of_free {s : State} {i : Fin 96} (h : s.slotState i = .free) : ∀ x ∈ s.stored, x.slot ≠ i := by
  intro x hx hslot
  subst hslot
  rw [mem_stored] at hx
  obtain ⟨hheld, hqueued⟩ : s.slotHeld x.slot = false ∧ s.slotQueued x.slot = false := by
    unfold State.slotState at h
    repeat' split at h
    all_goals simp_all
  simp only [State.slotHeld, State.slotQueued, List.any_eq_false, decide_eq_true_eq, List.any_eq_true, not_exists, not_and,
    List.mem_finRange, true_implies] at hheld hqueued
  rcases hx with ⟨src, hx⟩ | ⟨c, hx⟩
  · exact hheld src x hx rfl
  · exact hqueued c x hx rfl

/-- Steps 5 to 8 of the arrival decision put a request in a FREE slot, or refuse it (R65 to R68). -/
theorem placeArrival_moves {s : State} {r : StoredReq} (hr : ∀ x ∈ s.stored, x.slot ≠ r.slot) : s.Moves (s.placeArrival r) := by
  simp only [State.placeArrival]
  split
  · exact .of_move (.queued r hr (.of_frame (by simp)))
  · split
    · have hcharge : s.Moves (s.setBalance r.source ((s.contract r.source).balance - r.charge)) :=
        .of_contract r.source (.lowered _ (Nat.sub_le _ _)) (.refl _)
      exact hcharge.trans (.of_move (.queued r hr (.of_frame (by simp [State.queueCharged]))))
    · split
      · refine .of_move (.held r hr ?_)
        simp only [State.holdRequest]
        split <;> exact .of_frame (by simp)
      · exact .of_same (.of_frame (by simp))

theorem decideArrival_moves (s : State) (q : Request) (k : Kind) (tag : Fin 16) : s.Moves (s.decideArrival q k tag) := by
  have hrefuse (reason : Reason) : s.Moves (s.refuse q.source tag reason) := .of_same (.of_frame (by simp))
  unfold State.decideArrival
  split
  · exact hrefuse _
  · split
    · exact hrefuse _
    · exact hrefuse _
    all_goals
      split
      · exact hrefuse _
      · rename_i slot hslot
        exact placeArrival_moves (slot_ne_of_free (by simpa using List.find?_some hslot))

theorem raise_sameTables (s : State) (e : Event) : s.SameTables (s.raise e) := .of_frame (by simp)

theorem countSource_sameTables (s : State) (src : Fin 32) (k : SourceCounter) (n : Nat) : s.SameTables (s.countSource src k n) :=
  .of_frame (by simp)

theorem dropDuplicate_sameTables (s : State) (src : Fin 32) (tag : Fin 16) : s.SameTables (s.dropDuplicate src tag) :=
  .trans (t := { s with tickets := s.tickets - 1 }) {} (.of_frame (by simp [State.dropDuplicate]))

theorem refuseMalformed_sameTables (s : State) (src : Fin 32) (tag : Fin 64) : s.SameTables (s.refuseMalformed src tag) :=
  .of_frame (by simp [State.refuseMalformed])

/-- The ticket of a take, and the pair of its request in the Live Tag Map (R5, R9). -/
theorem takeTicket_moves (s : State) : s.Moves s.takeTicket :=
  .of_same {}

theorem setLive_moves (s : State) (src : Fin 32) (tag : Fin 16) (b : Bool) : s.Moves (s.setLive src tag b) :=
  .of_same {}

theorem arrived_moves (s : State) (src : Fin 32) (tag : Fin 16) : s.Moves (s.arrived src tag) :=
  ((takeTicket_moves s).trans (setLive_moves _ src tag true)).trans (.of_same (countSource_sameTables _ src .arrivals 1))

/-- The four ways a take goes (R5, R7 to R10). -/
theorem takeRequest_moves (s : State) (q : Request) : s.Moves (s.takeRequest q) := by
  have hticket := takeTicket_moves s
  obtain ⟨hnone, -⟩ | ⟨tag, hq, -⟩ := liveTag_cases q.tag
  · rw [takeRequest_of_badTag hnone]
    exact hticket.trans (.of_same (refuseMalformed_sameTables _ _ _))
  cases hlive : s.live q.source tag with
  | true =>
    rw [takeRequest_of_live hq hlive]
    exact hticket.trans (.of_same (dropDuplicate_sameTables _ _ _))
  | false =>
    by_cases hform : ∀ k, q.kind = some k → badForm q k = true
    · rw [takeRequest_of_badForm hq hlive hform]
      exact (hticket.trans (setLive_moves _ _ _ _)).trans (.of_same (refuseMalformed_sameTables _ _ _))
    · push Not at hform
      obtain ⟨k, hk, hform⟩ := hform
      rw [takeRequest_of_goodForm hq hlive hk (by simpa using hform)]
      exact (arrived_moves s _ _).trans (decideArrival_moves _ q k tag)

theorem handOverHead_sameTables (s : State) (c : Completion) : s.SameTables (s.handOverHead c) := by
  rw [handOverHead_eq]
  exact {}

/-- A grant takes the head of a dispatch queue out of the store (R118). -/
theorem grantHead_moves {s : State} {c : Fin 4} {r : StoredReq} {rest : List StoredReq} (h : s.queue c = r :: rest) (d : Fin 64) :
    s.Moves (s.grantHead c r rest d) :=
  .of_move (.left c rest (by simp [h]) {})

theorem matchCompletion_sameTables (s : State) (c : DCompletion) : s.SameTables (s.matchCompletion c) := by
  unfold State.matchCompletion
  split
  · refine .of_frame ?_
    simp only [State.completeActive, State.measure, State.offerResidence]
    split <;> simp
  · exact .of_frame (by simp [State.completeLate])
  · exact .of_frame (by simp [State.completeStray])

theorem timeOut_sameTables (s : State) (d : Fin 64) (r : Outstanding) : s.SameTables (s.timeOut d r) :=
  .of_frame (by simp [State.timeOut])

/-! ### Every command -/

/-- What a command does to contracts, lines, port and store. -/
inductive State.Reaches (s t : State) : Prop
  | moved (h : s.Moves t)
  | poweredOn (upRdy dnRdyPin : Level) (trig : Vector Level 4) (port : Port) (pending : List Instr) (wire : List PortEdge)
      (choices : Nat) (h : t = State.powerOn upRdy dnRdyPin trig port pending wire choices)
  | fell (h : t = s.abandon)

/-- An outcome chosen by a test, each way a chain of moves. -/
theorem ite_moves {p : Prop} [Decidable p] {s t u v : State}
    (h : (if p then (.next u : Host.Outcome State Fault Refusal) else .next v) = .next t) (hu : p → s.Moves u) (hv : s.Moves v) :
    s.Moves t := by
  split at h <;> cases h
  · exact hu ‹_›
  · exact hv

theorem execUpstreamReset_moves {s t : State} (h : execUpstreamReset s = .next t) : s.Moves t := by
  unfold execUpstreamReset at h
  repeat' split at h
  all_goals cases h
  · exact .of_same {}
  · exact .refl s
  · exact .of_move (.emptied (.trans (t := s.dropUpstream) {} (raise_sameTables _ _)))

theorem execResponseTimeout_moves {s t : State} {d : Fin 64} (h : execResponseTimeout d s = .next t) : s.Moves t := by
  unfold execResponseTimeout at h
  split at h
  · split at h <;> cases h
    · exact .of_same (timeOut_sameTables s d _)
    · exact .refl s
    · exact .refl s
  · cases h; exact .refl s

theorem execGrant_moves {s t : State} (h : execGrant s = .next t) : s.Moves t := by
  unfold execGrant at h
  split at h
  · split at h <;> cases h
    · exact grantHead_moves ‹_› _
    · exact .refl s
  · cases h; exact .refl s

theorem execHandOver_moves {s t : State} (h : execHandOver s = .next t) : s.Moves t := by
  unfold execHandOver at h
  split at h <;> cases h
  · exact .refl s
  · exact .of_same (handOverHead_sameTables s _)

theorem execTransitionSettles_moves {s t : State} {n : Fin 4} (h : execTransitionSettles n s = .next t) : s.Moves t := by
  unfold execTransitionSettles at h
  split at h
  · split at h <;> cases h
    · exact settle_moves ‹_›
    · exact .refl s
  · cases h; exact .refl s

theorem execTriggerPinChange_moves {s t : State} {n : Fin 4} {level : Level} (h : execTriggerPinChange n level s = .next t) :
    s.Moves t := by
  unfold execTriggerPinChange at h
  repeat' split at h
  all_goals cases h
  · exact .of_move (.pin n level ‹_› (.refl _))
  · exact .refl s
  · exact pinChange_moves s n level

theorem execCommandCut_moves {s t : State} {bytes : List Byte} (h : execCommandCut bytes s = .next t) : s.Moves t := by
  unfold execCommandCut at h
  split at h
  · cases h; exact .refl s
  · exact ite_moves h (fun _ => .of_same {}) (.refl s)

theorem execResponseCut_moves {s t : State} {n : Nat} (h : execResponseCut n s = .next t) : s.Moves t := by
  unfold execResponseCut at h
  split at h
  · cases h; exact .refl s
  · exact ite_moves h (fun _ => .of_same {}) (.refl s)

theorem execResetNFall_reaches {s t : State} (h : execResetNFall s = .next t) : s.Reaches t := by
  unfold execResetNFall at h
  split at h <;> cases h
  · exact .moved (.refl s)
  · exact .fell rfl

theorem exec_reaches {c : Instr} {s t : State} (h : exec c s = .next t) : s.Reaches t := by
  cases c with
  | powerOnReset mcsN => exact .poweredOn _ _ _ _ _ _ _ (Host.Outcome.next.inj h).symm
  | resetNFall => exact execResetNFall_reaches h
  | upstreamReset => exact .moved (execUpstreamReset_moves h)
  | upRdyRise =>
    cases h
    exact .moved (.of_same {})
  | downstreamDown =>
    exact .moved (ite_moves h (fun _ => .of_same {}) (.of_same (.trans (t := s.dropDownstream) {} (raise_sameTables _ _))))
  | downstreamUp =>
    exact .moved (ite_moves h (fun _ => .of_same {}) (.of_same (.trans (t := s.loadCredits) {} (raise_sameTables _ _))))
  | take header data => exact .moved (ite_moves h (fun _ => takeRequest_moves s _) (.refl s))
  | handOver => exact .moved (execHandOver_moves h)
  | grant => exact .moved (execGrant_moves h)
  | downstreamCompletion header data =>
    exact .moved (ite_moves h (fun _ => .refl s) (.of_same (matchCompletion_sameTables s _)))
  | responseTimeout d => exact .moved (execResponseTimeout_moves h)
  | boundary src =>
    refine .moved (ite_moves h (fun hdue => takeBoundary_moves (.inr ?_)) (.refl s))
    obtain ⟨start, length, htimer, -⟩ := (boundaryDue_iff s src).1 hdue.2
    simp [htimer]
  | headExpiry src => exact .moved (ite_moves h (fun _ => headCheck_moves s src) (.refl s))
  | windowEnd src =>
    refine .moved (ite_moves h (fun hdue => ?_) (.refl s))
    obtain ⟨start, length, htimer, -⟩ := (windowDue_iff s src).1 hdue.2
    exact takeWindowEnd_moves htimer
  | triggerPinChange n level => exact .moved (execTriggerPinChange_moves h)
  | transitionSettles n => exact .moved (execTransitionSettles_moves h)
  | commandCut bytes => exact .moved (execCommandCut_moves h)
  | responseCut n => exact .moved (execResponseCut_moves h)
  | _ => exact .moved (exec_management_moves rfl h)

end Sys2Proof.Machine
end

section
/-! The step lemmas of R35, R37, R89, R97, R100, R168 to R174, and of the placement of stored requests (R48, R59, R61, R107): each law is
kept by every move. -/

namespace Sys2Proof.Machine

/-! ### From moves to steps -/

section keeps

variable {P : State → Prop} (hmove : ∀ {s t : State}, s.Move t → P s → P t)
  (hon : ∀ upRdy dnRdyPin trig port pending wire choices, P (State.powerOn upRdy dnRdyPin trig port pending wire choices))
  (hfall : ∀ s : State, P s → P s.abandon)
include hmove hon hfall

theorem exec_keeps {c : Instr} {s t : State} (hs : P s) (h : exec c s = .next t) : P t := by
  cases exec_reaches h with
  | moved h => exact h.keeps hmove hs
  | poweredOn _ _ _ _ _ _ _ h => exact h ▸ hon _ _ _ _ _ _ _
  | fell h => exact h ▸ hfall s hs

/-- A law that does not speak of the management port is kept by every step where every move keeps it. -/
theorem step_keeps (hport : ∀ (s : State) (p : Port) (i : Bool), P s → P { s with port := p, portIgnore := i }) {s t : State}
    (hs : P s) (h : step s = .next t) : P t := by
  obtain ⟨u, hu, h⟩ := step_cases h
  have hpu : P u := hmove (.same (by rw [hu]; exact {})) (hport s u.port u.portIgnore hs)
  obtain ⟨c, h⟩ | rfl | rfl := h
  · exact exec_keeps hmove hon hfall hpu h
  · refine hmove (.same ?_) hpu
    unfold State.tick
    split <;> exact {}
  · exact hpu

end keeps

/-- What a move does to one contract. -/
theorem State.Move.contract_cases {s t : State} (h : s.Move t) (i : Fin 32) :
    t.contract i = s.contract i ∨ (s.contract i).Move (t.contract i) ∨
      ∃ x, (s.contract i).state ≠ .paced ∧ x.ceilingLegal = true ∧ s.changeRefused i x = false ∧
        t.contract i = { s.contract i with settings := x, balance := min (s.contract i).balance x.ceiling } := by
  cases h with
  | contract src c hm h =>
    rw [h.contract, State.setContract_contract]
    split
    · next hi => exact .inr (.inl (hi ▸ hm))
    · exact .inl rfl
  | written src x hp hx hr h =>
    rw [h.contract, State.applyWrite, State.setContract_contract]
    split
    · next hi => exact .inr (.inr ⟨x, hi ▸ hp, hx, hi ▸ hr, by rw [hi]⟩)
    · exact .inl rfl
  | same h => exact .inl (h.contract i)
  | released src k h => exact .inl (h.contract i)
  | dropped src k h => exact .inl (h.contract i)
  | left c l hl h => exact .inl (h.contract i)
  | queued r hr h => exact .inl (h.contract i)
  | held r hr h => exact .inl (h.contract i)
  | emptied h => exact .inl (h.contract i)
  | line n l hm h => exact .inl (h.contract i)
  | pin n level hr h => exact .inl (h.contract i)

/-- No move changes RESET_N or the management port. -/
theorem State.Move.port_frame {s t : State} (h : s.Move t) : t.resetN = s.resetN ∧ t.port = s.port ∧ t.portIgnore = s.portIgnore := by
  cases h with
  | same h => exact ⟨h.resetN, h.port, h.portIgnore⟩
  | contract src c hm h => exact ⟨h.resetN, h.port, h.portIgnore⟩
  | written src x hp hx hr h => exact ⟨h.resetN, h.port, h.portIgnore⟩
  | released src k h => exact ⟨h.resetN, h.port, h.portIgnore⟩
  | dropped src k h => exact ⟨h.resetN, h.port, h.portIgnore⟩
  | left c l hl h => exact ⟨h.resetN, h.port, h.portIgnore⟩
  | queued r hr h => exact ⟨h.resetN, h.port, h.portIgnore⟩
  | held r hr h => exact ⟨h.resetN, h.port, h.portIgnore⟩
  | emptied h => exact ⟨h.resetN, h.port, h.portIgnore⟩
  | line n l hm h => exact ⟨h.resetN, h.port, h.portIgnore⟩
  | pin n level hr h => exact ⟨h.resetN, h.port, h.portIgnore⟩

/-! ### Balances (R35) -/

theorem Contract.BalanceLaw.applied {c : Contract} (h : c.BalanceLaw) : c.applied.BalanceLaw := by
  obtain ⟨hlegal, hle, hstaged⟩ := h
  cases hx : c.staged with
  | none =>
    rw [Contract.applied_of_none hx]
    exact ⟨hlegal, hle, hstaged⟩
  | some x =>
    rw [Contract.applied_of_some hx]
    exact ⟨hstaged x hx, Nat.min_le_right _ _, by simp⟩

theorem budget_le_ceiling (x : Settings) : x.budget ≤ x.ceiling := Nat.le_add_right _ _

theorem Contract.Move.balanceLaw {c c' : Contract} (h : c.Move c') (hc : c.BalanceLaw) : c'.BalanceLaw := by
  obtain ⟨hlegal', hle', hstaged'⟩ := hc.applied
  obtain ⟨hlegal, hle, hstaged⟩ := hc
  cases h with
  | applied => exact ⟨hlegal', hle', hstaged'⟩
  | lowered b h => exact ⟨hlegal, h.trans hle, hstaged⟩
  | refilled b h hp => exact ⟨hlegal, h, hstaged⟩
  | nextPeriod m start start' length length' h => exact ⟨hlegal, hle, hstaged⟩
  | counted n => exact ⟨hlegal, hle, hstaged⟩
  | ended start length h => exact ⟨hlegal', Nat.zero_le _, hstaged'⟩
  | staged x hp hx hm hc =>
    refine ⟨hlegal, hle, fun y hy => ?_⟩
    cases hy
    exact hx
  | started edges now => exact ⟨hlegal, budget_le_ceiling _, hstaged⟩
  | halted st h => exact ⟨hlegal', hle', hstaged'⟩
  | unpaced h => exact ⟨hlegal, hle, hstaged⟩

theorem State.Move.balanceLaw {s t : State} (h : s.Move t) (hs : s.BalanceLaw) : t.BalanceLaw := by
  intro i
  obtain ⟨-, -, hstaged⟩ := hs i
  rcases h.contract_cases i with h | h | ⟨x, -, hx, -, h⟩
  · rw [h]
    exact hs i
  · exact h.balanceLaw (hs i)
  · rw [h]
    exact ⟨hx, Nat.min_le_right _ _, hstaged⟩

/-- Settles O52: charges, refills and clips keep a balance at or below its ceiling, and every ceiling that is written is legal. -/
theorem stepKeepsBalanceLaw : Obligations.StepKeepsBalanceLaw := by
  intro s t hs h
  refine step_keeps State.Move.balanceLaw ?_ ?_ (fun _ _ _ hs => hs) hs h
  · intro upRdy dnRdyPin trig port pending wire choices i
    rw [State.powerOn_contract]
    decide
  · intro s hs i
    rw [State.abandon_contract]
    exact hs i

/-! ### Timers, states and staged copies (R37, R89, R97) -/

theorem timerAgrees_iff (c : Contract) : c.timerAgrees = true ↔
    (c.timer = .stopped ∧ (c.state ≠ .paced ∨ c.settings.mode = .triggered)) ∨
    (∃ start length, c.timer = .running .period start length ∧ c.state = .paced ∧ c.settings.mode = .reload) ∨
    ∃ start length, c.timer = .running .window start length ∧ c.state = .paced ∧ c.settings.mode = .oneShot := by
  unfold Contract.timerAgrees
  cases c.timer with
  | stopped => simp
  | running m start length => cases m <;> simp

/-- Outside PACED the timer is stopped (R89). -/
theorem timer_of_not_paced {c : Contract} (h : c.timerAgrees = true) (hp : c.state ≠ .paced) : c.timer = .stopped := by
  rcases (timerAgrees_iff c).1 h with ⟨ht, -⟩ | ⟨_, _, -, hpaced, -⟩ | ⟨_, _, -, hpaced, -⟩
  · exact ht
  · exact absurd hpaced hp
  · exact absurd hpaced hp

theorem timerAgrees_of_stopped {c : Contract} (ht : c.timer = .stopped) (hp : c.state ≠ .paced) : c.timerAgrees = true :=
  (timerAgrees_iff c).2 (.inl ⟨ht, .inl hp⟩)

/-- A setting that a staged copy has as the live ones have it stands when the copy is applied. -/
theorem applied_setting {α : Type} (g : Settings → α) {c : Contract} (h : ∀ x ∈ c.staged, g x = g c.settings) :
    g c.applied.settings = g c.settings := by
  cases hx : c.staged with
  | none => rw [Contract.applied_of_none hx]
  | some x =>
    rw [Contract.applied_of_some hx]
    exact h x hx

/-- A copy that stands only in PACED is absent in every other state. -/
theorem staged_of_not_paced {c : Contract} (h : ∀ x ∈ c.staged, c.state = .paced) (hp : c.state ≠ .paced) : c.staged = none := by
  cases hx : c.staged with
  | none => rfl
  | some x => exact absurd (h x hx) hp

theorem started_timerAgrees (c : Contract) (edges : Nat) (now : Time) : (c.started edges now).timerAgrees = true := by
  rw [timerAgrees_iff]
  cases hm : c.settings.mode <;> simp [Contract.started, Settings.freshTimer, hm]

theorem Contract.Move.timerLaw {c c' : Contract} (h : c.Move c') (hc : c.TimerLaw) : c'.TimerLaw := by
  obtain ⟨htimer, hspent, hstaged⟩ := hc
  have hmode := applied_setting Settings.mode fun x hx => (hstaged x hx).2.1
  have hnone (hp : c.state ≠ .paced) := staged_of_not_paced (fun x hx => (hstaged x hx).1) hp
  cases h with
  | applied =>
    refine ⟨?_, fun hst => ?_, by simp⟩
    · rw [timerAgrees_iff] at htimer ⊢
      rw [hmode, Contract.applied_timer, Contract.applied_state]
      exact htimer
    · rw [Contract.applied_state] at hst
      rw [Contract.applied_of_none (hnone (by simp [hst]))]
      exact hspent hst
  | lowered b h =>
    refine ⟨htimer, fun hst => ?_, hstaged⟩
    obtain ⟨hm, hb⟩ := hspent hst
    exact ⟨hm, Nat.le_zero.1 (hb ▸ h)⟩
  | refilled b h hp =>
    refine ⟨htimer, fun hst => ?_, hstaged⟩
    have hnp : c.state ≠ .paced := by simp [show c.state = .spent from hst]
    exact absurd (timer_of_not_paced htimer hnp) (hp.resolve_left hnp)
  | nextPeriod m start start' length length' h =>
    refine ⟨?_, hspent, hstaged⟩
    rw [timerAgrees_iff] at htimer ⊢
    simpa [h] using htimer
  | counted n => exact ⟨htimer, hspent, hstaged⟩
  | ended start length h =>
    have hshot : c.settings.mode = .oneShot := by
      simp only [Contract.timerAgrees, h, Bool.and_eq_true, decide_eq_true_eq] at htimer
      exact htimer.2
    exact ⟨timerAgrees_of_stopped rfl (by simp), fun _ => ⟨hmode.trans hshot, rfl⟩, by simp⟩
  | staged x hp hx hm hc =>
    refine ⟨htimer, hspent, fun y hy => ?_⟩
    cases hy
    exact ⟨hp, hm, hc⟩
  | started edges now =>
    refine ⟨started_timerAgrees c edges now, fun hst => ?_, fun x hx => ⟨rfl, (hstaged x hx).2⟩⟩
    simp [Contract.started] at hst
  | halted st h =>
    refine ⟨timerAgrees_of_stopped rfl ?_, fun hst => ?_, by simp⟩
    · rcases h with rfl | rfl <;> simp
    · rcases h with rfl | rfl <;> simp at hst
  | unpaced h =>
    have hstopped := timer_of_not_paced htimer h
    refine ⟨timerAgrees_of_stopped hstopped (by simp), fun hst => ?_, ?_⟩
    · simp at hst
    · simp [hnone h]

/-- A write outside PACED keeps the mode unless the source is UNPACED (R48). -/
theorem written_timerLaw {s : State} {i : Fin 32} {x : Settings} (hp : (s.contract i).state ≠ .paced)
    (hr : s.changeRefused i x = false) (hc : (s.contract i).TimerLaw) :
    ({ s.contract i with settings := x, balance := min (s.contract i).balance x.ceiling } : Contract).TimerLaw := by
  obtain ⟨htimer, hspent, hstaged⟩ := hc
  have hstopped := timer_of_not_paced htimer hp
  refine ⟨timerAgrees_of_stopped hstopped hp, fun hst => ?_, ?_⟩
  · obtain ⟨hm, hb⟩ := hspent hst
    have hunpaced : (s.contract i).state ≠ .unpaced := by
      rw [show (s.contract i).state = .spent from hst]
      decide
    rw [← Bool.not_eq_true, changeRefused_of_not_unpaced x hunpaced, not_or, not_not] at hr
    exact ⟨hr.1.trans hm, by simp [hb]⟩
  · simp [staged_of_not_paced (fun x hx => (hstaged x hx).1) hp]

theorem State.Move.timerLaw {s t : State} (h : s.Move t) (hs : s.TimerLaw) : t.TimerLaw := by
  intro hr i
  have hi := hs (h.port_frame.1 ▸ hr) i
  rcases h.contract_cases i with h | h | ⟨x, hp, -, hchange, h⟩
  · rw [h]
    exact hi
  · exact h.timerLaw hi
  · rw [h]
    exact written_timerLaw hp hchange hi

theorem step_timerLaw {s t : State} (hs : s.TimerLaw) (h : step s = .next t) : t.TimerLaw := by
  refine step_keeps State.Move.timerLaw ?_ ?_ (fun _ _ _ hs => hs) hs h
  · intro upRdy dnRdyPin trig port pending wire choices _ i
    rw [State.powerOn_contract]
    decide
  · intro s _ hr
    cases hr

/-! ### Trigger lines (R100) -/

theorem Line.Move.consistent {l l' : Line} (h : l.Move l') (hl : l.consistent = true) : l'.consistent = true := by
  cases h with
  | configured edge filter => exact hl
  | returned => simp [Line.consistent]
  | pended level now h => simp [Line.consistent, h]
  | restarted level seen now h => simpa [Line.consistent, h] using hl
  | settled level seen h =>
    have hpin : l.pin = level := by
      simp only [Line.consistent, h, Bool.and_eq_true, decide_eq_true_eq] at hl
      exact hl.2
    simp [Line.consistent, hpin]
  | settledAtOnce level => simp [Line.consistent]

theorem State.Move.lineLaw {s t : State} (h : s.Move t) (hs : s.LineLaw) : t.LineLaw := by
  intro hr i
  have hrs := h.port_frame.1.symm.trans hr
  have hi := hs hrs i
  cases h with
  | line n l hm h =>
    rw [h.line, State.setLine_line]
    split
    · next hn => exact hm.consistent (hn ▸ hi)
    · exact hi
  | pin n level hlow h => simp [hrs] at hlow
  | same h => exact h.line i ▸ hi
  | contract src c hm h => exact h.line i ▸ hi
  | written src x hp hx hr h => exact h.line i ▸ hi
  | released src k h => exact h.line i ▸ hi
  | dropped src k h => exact h.line i ▸ hi
  | left c l hl h => exact h.line i ▸ hi
  | queued r hr h => exact h.line i ▸ hi
  | held r hr h => exact h.line i ▸ hi
  | emptied h => exact h.line i ▸ hi

theorem step_lineLaw {s t : State} (hs : s.LineLaw) (h : step s = .next t) : t.LineLaw := by
  refine step_keeps State.Move.lineLaw ?_ ?_ (fun _ _ _ hs => hs) hs h
  · intro upRdy dnRdyPin trig port pending wire choices _ n
    rw [State.powerOn_line]
    simp [Line.powerOn, Line.consistent]
  · intro s _ hr
    cases hr

/-! ### The management port (R168, R170, R174) -/

theorem portLaw_of_cleared {s : State} {p : Port} (hp : s.port = p.cleared)
    (hi : s.resetN = .high → s.portIgnore = true → s.port.mcsN = .low) : s.PortLaw := by
  refine ⟨?_, ?_, fun _ => ?_, hi⟩ <;> simp [hp, Port.cleared, reachesTake]

/-- While MCS_N is low only what has been received matters. -/
theorem portLaw_of_selected {s : State} (hr : s.resetN = .high) (hm : s.port.mcsN = .low) (hbits : s.port.bits.length < 8)
    (hbytes : reachesTake s.port.bytes = false) : s.PortLaw :=
  ⟨hbits, hbytes, by simp [hr, hm], fun _ _ => hm⟩

theorem clockIn_bits_length {p : Port} (b : Bool) (h : p.bits.length < 8) : (p.clockIn b).bits.length < 8 := by
  unfold Port.clockIn
  split
  · simp
  · simp
    omega

theorem clockIn_mcsN (p : Port) (b : Bool) : (p.clockIn b).mcsN = p.mcsN := by
  unfold Port.clockIn
  split <;> rfl

/-- A rise of MSCK in a transaction: the bytes that reach the take are taken, and none is left (R168). -/
theorem clockRise_portLaw {s : State} (hr : s.resetN = .high) (hm : s.port.mcsN = .low) (hs : s.PortLaw) : s.clockRise.1.PortLaw := by
  obtain ⟨hbits, hbytes, -⟩ := hs
  have hclock := clockIn_bits_length (s.port.mdi = .high) hbits
  have hsel := (clockIn_mcsN s.port (s.port.mdi = .high)).trans hm
  unfold State.clockRise
  split
  · exact portLaw_of_selected hr hm hbits hbytes
  · dsimp only
    split
    · exact portLaw_of_selected hr hsel hclock rfl
    · exact portLaw_of_selected hr hsel hclock (Bool.eq_false_of_not_eq_true ‹_›)

theorem deselect_portLaw (s : State) : s.deselect.1.PortLaw := by
  unfold State.deselect
  split
  · exact portLaw_of_cleared rfl (by simp)
  · split <;> exact portLaw_of_cleared rfl (by simp [*])

/-- A pin of the port changes; a command that this gives has not yet been taken. -/
theorem portEdge_portLaw {s : State} (e : PortEdge) (hs : s.PortLaw) : (s.portEdge e).1.PortLaw := by
  by_cases hquiet : s.port.moved e = s.port ∨ s.resetN = .low
  · rw [portEdge_unchanged hquiet]
    rcases hquiet with hsame | hlow
    · rw [hsame]
      exact hs
    · obtain ⟨hbits, hbytes, hnone, -⟩ := hs
      refine ⟨?_, ?_, fun _ => ?_, fun hr => ?_⟩
      · cases e <;> exact hbits
      · cases e <;> exact hbytes
      · cases e <;> exact hnone (.inl hlow)
      · cases hlow.symm.trans hr
  · rw [not_or] at hquiet
    have hr : s.resetN = .high := by
      cases h : s.resetN with
      | low => exact absurd h hquiet.2
      | high => rfl
    rw [portEdge_changed hr hquiet.1]
    cases e with
    | mdi level => exact hs
    | mcsN level =>
      cases level with
      | low => exact portLaw_of_cleared rfl fun _ hi => by cases hi
      | high => exact deselect_portLaw _
    | msck level =>
      have hmoved : ({ s with port := s.port.moved (.msck level) } : State).PortLaw := hs
      simp only [State.portChanged]
      split
      · exact hs
      · rename_i hsel
        have hlow : s.port.mcsN = .low := by
          cases h : s.port.mcsN with
          | low => rfl
          | high => exact absurd (.inl h) hsel
        cases level with
        | high => exact clockRise_portLaw hr hlow hmoved
        | low => exact hs

theorem State.Move.portLaw {s t : State} (h : s.Move t) (hs : s.PortLaw) : t.PortLaw := by
  obtain ⟨hr, hp, hi⟩ := h.port_frame
  unfold State.PortLaw
  rw [hr, hp, hi]
  exact hs

theorem exec_portLaw {c : Instr} {s t : State} (hs : s.PortLaw) (h : exec c s = .next t) : t.PortLaw := by
  refine exec_keeps State.Move.portLaw ?_ ?_ hs h
  · intro upRdy dnRdyPin trig port pending wire choices
    exact portLaw_of_cleared (p := port) rfl fun _ hi => of_decide_eq_true hi
  · intro s _
    exact portLaw_of_cleared (p := s.port) rfl fun hr => by cases hr

theorem drive_portLaw {s t : State} {e : PortEdge} (hs : s.PortLaw) (h : s.drive e = .next t) : t.PortLaw := by
  have hedge := portEdge_portLaw e hs
  unfold State.drive at h
  split at h
  · next heq =>
    rw [heq] at hedge
    exact exec_portLaw hedge h
  · next heq =>
    rw [heq] at hedge
    cases h
    exact hedge

theorem step_portLaw {s t : State} (hs : s.PortLaw) (h : step s = .next t) : t.PortLaw := by
  unfold step at h
  split at h
  · refine exec_portLaw ?_ h
    exact hs
  · unfold State.idle State.takeTurn at h
    split at h
    · refine drive_portLaw ?_ h
      exact hs
    · refine exec_portLaw ?_ h
      exact hs
    · cases h
      unfold State.tick
      split <;> exact hs

/-- Settles O57: each law is kept by every move, and the port's law by every change of one of its pins. -/
theorem stepKeepsTimerAndLineLaws : Obligations.StepKeepsTimerAndLineLaws :=
  ⟨fun _ _ => step_timerLaw, fun _ _ => step_lineLaw, fun _ _ => step_portLaw⟩

end Sys2Proof.Machine
end

section
/-! The step lemmas of the Request Store: where a stored request stands (R48, R61, R107), and that no slot holds two (R59). -/

namespace Sys2Proof.Machine

/-! ### The class of a stored request -/

/-- R37, R48 at one contract: a staged copy stands only in PACED, and keeps the live class. -/
abbrev Contract.StagedLaw (c : Contract) : Prop := ∀ x ∈ c.staged, c.state = .paced ∧ x.cls = c.settings.cls

theorem Contract.Move.stagedLaw {c c' : Contract} (h : c.Move c') (hc : c.StagedLaw) : c'.StagedLaw := by
  cases h with
  | applied => simp [Contract.StagedLaw]
  | lowered b h => exact hc
  | refilled b h hp => exact hc
  | nextPeriod m start start' length length' h => exact hc
  | counted n => exact hc
  | ended start length h => simp [Contract.StagedLaw]
  | staged x hp hx hm hcls =>
    intro y hy
    cases hy
    exact ⟨hp, hcls⟩
  | started edges now => exact fun x hx => ⟨rfl, (hc x hx).2⟩
  | halted st h => simp [Contract.StagedLaw]
  | unpaced h => exact fun x hx => absurd (hc x hx).1 h

/-- No move but an applied write can change a source's class. -/
theorem Contract.Move.cls_eq {c c' : Contract} (h : c.Move c') (hc : c.StagedLaw) : c'.settings.cls = c.settings.cls := by
  have happlied := applied_setting Settings.cls fun x hx => (hc x hx).2
  cases h with
  | applied => exact happlied
  | ended start length h => exact happlied
  | halted st h => exact happlied
  | _ => rfl

theorem State.Move.stagedLaw {s t : State} (h : s.Move t) (hs : ∀ i, (s.contract i).StagedLaw) (i : Fin 32) :
    (t.contract i).StagedLaw := by
  rcases h.contract_cases i with h | h | ⟨x, hp, -, -, h⟩
  · rw [h]
    exact hs i
  · exact h.stagedLaw (hs i)
  · rw [h]
    exact fun y hy => absurd (hs i y hy).1 hp

theorem storesOf_of_mem_queue {s : State} {c : Fin 4} {r : StoredReq} (h : r ∈ s.queue c) : s.storesOf r.source = true := by
  simp only [State.storesOf, Bool.or_eq_true, List.any_eq_true, decide_eq_true_eq]
  exact .inr ⟨c, List.mem_finRange c, r, h, rfl⟩

/-- While a request of a source stands in a queue, the class of the source stands (R48). -/
theorem State.Move.cls_of_queued {s t : State} (h : s.Move t) (hs : ∀ i, (s.contract i).StagedLaw) {c : Fin 4} {r : StoredReq}
    (hr : r ∈ s.queue c) : (t.contract r.source).settings.cls = (s.contract r.source).settings.cls := by
  rcases h.contract_cases r.source with h | h | ⟨x, -, -, hchange, h⟩
  · rw [h]
  · exact h.cls_eq (hs r.source)
  · rw [h]
    rw [← Bool.not_eq_true] at hchange
    by_contra hne
    refine hchange ?_
    by_cases hu : (s.contract r.source).state = .unpaced
    · exact (changeRefused_of_unpaced x hu).2 ⟨hne, storesOf_of_mem_queue hr⟩
    · exact (changeRefused_of_not_unpaced x hu).2 (.inr hne)

/-! ### Where a stored request stands -/

@[simp] theorem emptyStore_hold (s : State) (i : Fin 32) : s.emptyStore.hold i = [] := by simp [State.emptyStore, State.hold]

@[simp] theorem emptyStore_queue (s : State) (c : Fin 4) : s.emptyStore.queue c = [] := by simp [State.emptyStore, State.queue]

/-- A hold list gains only requests of its own source (R67). -/
theorem State.Move.mem_hold {s t : State} (h : s.Move t) {i : Fin 32} {r : StoredReq} (hr : r ∈ t.hold i) :
    r ∈ s.hold i ∨ r.source = i := by
  cases h with
  | same h => exact .inl (h.hold i ▸ hr)
  | contract src c hm h => exact .inl (h.hold i ▸ hr)
  | written src x hp hx hc h => exact .inl (h.hold i ▸ hr)
  | left c l hl h => exact .inl (h.hold i ▸ hr)
  | queued r' hf h => exact .inl (h.hold i ▸ hr)
  | line n l hm h => exact .inl (h.hold i ▸ hr)
  | pin n level hlow h => exact .inl (h.hold i ▸ hr)
  | released src k h =>
    rw [h.hold, release_hold] at hr
    split at hr
    · next hi => exact .inl (hi ▸ List.mem_of_mem_drop hr)
    · exact .inl hr
  | dropped src k h =>
    rw [h.hold, State.setHold_hold] at hr
    split at hr
    · next hi => exact .inl (hi ▸ List.mem_of_mem_drop hr)
    · exact .inl hr
  | held r' hf h =>
    rw [h.hold, State.setHold_hold] at hr
    split at hr
    · next hi =>
      rcases List.mem_append.1 hr with hr | hr
      · exact .inl (hi ▸ hr)
      · exact .inr (by rw [List.mem_singleton.1 hr, hi])
    · exact .inl hr
  | emptied h => simp [h.hold] at hr

/-- A dispatch queue gains only requests whose source has its class (R69, R107). -/
theorem State.Move.mem_queue {s t : State} (h : s.Move t) (hs : ∀ i, ∀ r ∈ s.hold i, r.source = i) {c : Fin 4} {r : StoredReq}
    (hr : r ∈ t.queue c) : r ∈ s.queue c ∨ (t.contract r.source).settings.cls = c := by
  cases h with
  | same h => exact .inl (h.queue c ▸ hr)
  | contract src x hm h => exact .inl (h.queue c ▸ hr)
  | written src x hp hx hc h => exact .inl (h.queue c ▸ hr)
  | held r' hf h => exact .inl (h.queue c ▸ hr)
  | dropped src k h => exact .inl (h.queue c ▸ hr)
  | line n l hm h => exact .inl (h.queue c ▸ hr)
  | pin n level hlow h => exact .inl (h.queue c ▸ hr)
  | released src k h =>
    rw [h.queue, release_queue] at hr
    split at hr
    · next hc =>
      rcases List.mem_append.1 hr with hr | hr
      · exact .inl (hc ▸ hr)
      · refine .inr ?_
        rw [hs src r (List.mem_of_mem_take hr), h.contract]
        exact hc.symm
    · exact .inl hr
  | left c' l hl h =>
    rw [h.queue, State.setQueue_queue] at hr
    split at hr
    · next hc => exact .inl (hc ▸ hl.subset hr)
    · exact .inl hr
  | queued r' hf h =>
    rw [h.queue, State.enqueue_queue] at hr
    split at hr
    · next hc =>
      rcases List.mem_append.1 hr with hr | hr
      · exact .inl (hc ▸ hr)
      · refine .inr ?_
        rw [List.mem_singleton.1 hr, h.contract]
        exact hc.symm
    · exact .inl hr
  | emptied h => simp [h.queue] at hr

theorem State.Move.classLaw {s t : State} (h : s.Move t) (hs : s.ClassLaw) : t.ClassLaw := by
  obtain ⟨hhold, hqueue, hstaged⟩ := hs
  refine ⟨fun i r hr => ?_, fun c r hr => ?_, fun i => h.stagedLaw hstaged i⟩
  · exact (h.mem_hold hr).elim (hhold i r) id
  · rcases h.mem_queue hhold hr with hr | hr
    · rw [h.cls_of_queued hstaged hr]
      exact hqueue c r hr
    · exact hr

theorem step_classLaw {s t : State} (hs : s.ClassLaw) (h : step s = .next t) : t.ClassLaw := by
  refine step_keeps State.Move.classLaw ?_ ?_ (fun _ _ _ hs => hs) hs h
  · intro upRdy dnRdyPin trig port pending wire choices
    refine ⟨fun i => ?_, fun c => ?_, fun i => ?_⟩
    · simp
    · simp
    · simp [Contract.powerOn]
  · rintro s ⟨-, -, hstaged⟩
    refine ⟨fun i => ?_, fun c => ?_, fun i => ?_⟩
    · simp
    · simp
    · rw [State.abandon_contract]
      exact hstaged i

/-! ### Slots -/

theorem coe_flatMap_finRange {α : Type} {n : Nat} (f : Fin n → List α) :
    (((List.finRange n).flatMap f : List α) : Multiset α) = ∑ i, (f i : Multiset α) := by
  rw [Fin.sum_univ_def]
  induction List.finRange n with
  | nil => rfl
  | cons i l ih => rw [List.flatMap_cons, ← Multiset.coe_add, ih, List.map_cons, List.sum_cons]

theorem coe_storedInOrder (s : State) : (s.storedInOrder : Multiset StoredReq) = s.stored := by
  rw [State.storedInOrder, ← Multiset.coe_add, coe_flatMap_finRange, coe_flatMap_finRange, State.stored]

theorem slotLaw_iff (s : State) : s.SlotLaw ↔ (s.stored.map StoredReq.slot).Nodup := by
  rw [← coe_storedInOrder, Multiset.map_coe, Multiset.coe_nodup]

theorem stored_congr {s t : State} (hh : ∀ i, t.hold i = s.hold i) (hq : ∀ c, t.queue c = s.queue c) : t.stored = s.stored := by
  simp only [State.stored, hh, hq]

theorem stored_of_same {s t : State} (h : s.SameTables t) : t.stored = s.stored := stored_congr h.hold h.queue

/-- A sum of lists after one of them has changed. -/
theorem sum_lists_after_change {n : Nat} {f g : Fin n → List StoredReq} (j : Fin n) (h : ∀ i, i ≠ j → g i = f i) :
    ∑ i, (g i : Multiset StoredReq) + f j = ∑ i, (f i : Multiset StoredReq) + g j := by
  have hs : ∑ i ∈ Finset.univ.erase j, (g i : Multiset StoredReq) = ∑ i ∈ Finset.univ.erase j, (f i : Multiset StoredReq) :=
    Finset.sum_congr rfl fun i hi => by rw [h i (Finset.ne_of_mem_erase hi)]
  rw [← Finset.sum_erase_add _ (fun i => (g i : Multiset StoredReq)) (Finset.mem_univ j),
    ← Finset.sum_erase_add _ (fun i => (f i : Multiset StoredReq)) (Finset.mem_univ j), hs, add_right_comm]

theorem stored_setHold (s : State) (src : Fin 32) (l : List StoredReq) :
    (s.setHold src l).stored + s.hold src = s.stored + (l : Multiset StoredReq) := by
  have h := sum_lists_after_change (f := s.hold) (g := (s.setHold src l).hold) src fun i hi => by simp [hi]
  rw [State.setHold_hold_self] at h
  simp only [State.stored, State.setHold_queue]
  rw [add_right_comm, h, add_right_comm]

theorem stored_setQueue (s : State) (c : Fin 4) (l : List StoredReq) :
    (s.setQueue c l).stored + s.queue c = s.stored + (l : Multiset StoredReq) := by
  have h := sum_lists_after_change (f := s.queue) (g := (s.setQueue c l).queue) c fun i hi => by simp [hi]
  rw [State.setQueue_queue_self] at h
  simp only [State.stored, State.setQueue_hold]
  rw [add_assoc, h, add_assoc]

theorem stored_setHold_le {s : State} {src : Fin 32} {l : List StoredReq} (h : l.Sublist (s.hold src)) :
    (s.setHold src l).stored ≤ s.stored := by
  have hle : (l : Multiset StoredReq) ≤ s.hold src := Multiset.coe_le.2 h.subperm
  refine le_of_add_le_add_right (a := (s.hold src : Multiset StoredReq)) ?_
  rw [stored_setHold]
  exact add_le_add_right hle _

theorem stored_setQueue_le {s : State} {c : Fin 4} {l : List StoredReq} (h : l.Sublist (s.queue c)) :
    (s.setQueue c l).stored ≤ s.stored := by
  have hle : (l : Multiset StoredReq) ≤ s.queue c := Multiset.coe_le.2 h.subperm
  refine le_of_add_le_add_right (a := (s.queue c : Multiset StoredReq)) ?_
  rw [stored_setQueue]
  exact add_le_add_right hle _

theorem stored_queue_append (s : State) (c : Fin 4) (l : List StoredReq) :
    (s.setQueue c (s.queue c ++ l)).stored = s.stored + (l : Multiset StoredReq) := by
  have h := stored_setQueue s c (s.queue c ++ l)
  rw [← Multiset.coe_add, add_comm (s.queue c : Multiset StoredReq), ← add_assoc] at h
  exact add_right_cancel h

theorem stored_hold_append (s : State) (src : Fin 32) (l : List StoredReq) :
    (s.setHold src (s.hold src ++ l)).stored = s.stored + (l : Multiset StoredReq) := by
  have h := stored_setHold s src (s.hold src ++ l)
  rw [← Multiset.coe_add, add_comm (s.hold src : Multiset StoredReq), ← add_assoc] at h
  exact add_right_cancel h

/-- A release moves requests within the store. -/
theorem stored_release (s : State) (src : Fin 32) (k : Nat) : (s.release src k).stored = s.stored := by
  have hhold := stored_setHold s src ((s.hold src).drop k)
  have hsplit : (s.hold src : Multiset StoredReq) = (s.hold src).take k + (s.hold src).drop k := by
    rw [Multiset.coe_add, List.take_append_drop]
  have hqueue := stored_queue_append (s.setHold src ((s.hold src).drop k)) (s.contract src).settings.cls ((s.hold src).take k)
  rw [State.release, ← State.setHold_queue s src ((s.hold src).drop k), hqueue]
  rw [hsplit, ← add_assoc] at hhold
  exact add_right_cancel hhold

/-- A move leaves stored what was stored, or less, or it adds one request in a slot that was FREE. -/
theorem State.Move.stored {s t : State} (h : s.Move t) :
    t.stored ≤ s.stored ∨ ∃ r, (∀ x ∈ s.stored, x.slot ≠ r.slot) ∧ t.stored = s.stored + {r} := by
  cases h with
  | same h => exact .inl (stored_of_same h).le
  | contract src c hm h => exact .inl (stored_of_same h).le
  | written src x hp hx hr h => exact .inl (stored_of_same h).le
  | line n l hm h => exact .inl (stored_of_same h).le
  | pin n level hr h => exact .inl (stored_of_same h).le
  | released src k h => exact .inl ((stored_of_same h).trans (stored_release s src k)).le
  | dropped src k h => exact .inl ((stored_of_same h).trans_le (stored_setHold_le (List.drop_sublist _ _)))
  | left c l hl h => exact .inl ((stored_of_same h).trans_le (stored_setQueue_le hl))
  | queued r hr h => exact .inr ⟨r, hr, (stored_of_same h).trans (stored_queue_append s _ [r])⟩
  | held r hr h => exact .inr ⟨r, hr, (stored_of_same h).trans (stored_hold_append s _ [r])⟩
  | emptied h =>
    have hnone : s.emptyStore.stored = 0 := by simp [State.stored]
    exact .inl ((stored_of_same h).trans_le (hnone ▸ Multiset.zero_le _))

theorem State.Move.slotLaw {s t : State} (h : s.Move t) (hs : s.SlotLaw) : t.SlotLaw := by
  rw [slotLaw_iff] at hs ⊢
  rcases h.stored with hle | ⟨r, hfree, hadd⟩
  · exact Multiset.nodup_of_le (Multiset.map_le_map hle) hs
  · rw [hadd, add_comm, Multiset.singleton_add, Multiset.map_cons, Multiset.nodup_cons]
    refine ⟨fun hmem => ?_, hs⟩
    obtain ⟨x, hx, hslot⟩ := Multiset.mem_map.1 hmem
    exact hfree x hx hslot

theorem slotLaw_of_empty {s : State} (hh : ∀ i, s.hold i = []) (hq : ∀ c, s.queue c = []) : s.SlotLaw := by
  rw [State.SlotLaw, State.storedInOrder_eq_nil hh hq]
  exact List.nodup_nil

theorem step_slotLaw {s t : State} (hs : s.SlotLaw) (h : step s = .next t) : t.SlotLaw := by
  refine step_keeps State.Move.slotLaw ?_ ?_ (fun _ _ _ hs => hs) hs h
  · exact fun _ _ _ _ _ _ _ => slotLaw_of_empty (by simp) (by simp)
  · exact fun s _ => slotLaw_of_empty (by simp) (by simp)

/-- Settles O58: every move keeps a stored request in the list of its source or the queue of its class, and adds one in a FREE slot only. -/
theorem stepKeepsStoreLaws : Obligations.StepKeepsStoreLaws :=
  ⟨fun _ _ => step_classLaw, fun _ _ => step_slotLaw⟩

end Sys2Proof.Machine
end

section
/-! The step lemma of R60 and R72. A drain leaves a head that the balance does not cover; every other command leaves lists and balances
alone, lowers a balance, empties a list, or holds a request behind others or one that is not covered. -/

namespace Sys2Proof.Machine

/-! ### The law at one source -/

/-- R60, R72 at one source, of its contract and its hold list. -/
abbrev Contract.HoldLaw (c : Contract) (l : List StoredReq) : Prop :=
  (c.state ≠ .paced → l = []) ∧ ∀ r ∈ l.head?, c.balance < r.charge

theorem Contract.holdLaw_nil (c : Contract) : c.HoldLaw [] := ⟨fun _ => rfl, by simp⟩

/-- A smaller balance covers no more. -/
theorem Contract.HoldLaw.lowered {c c' : Contract} {l : List StoredReq} (h : c.HoldLaw l) (hstate : c'.state = c.state)
    (hle : c'.balance ≤ c.balance) : c'.HoldLaw l :=
  ⟨hstate ▸ h.1, fun r hr => hle.trans_lt (h.2 r hr)⟩

/-- The law reads the contracts and the hold lists alone. -/
theorem holdLaw_congr {s t : State} (h : (∀ i, t.contract i = s.contract i) ∧ ∀ i, t.hold i = s.hold i) (hs : s.HoldLaw) :
    t.HoldLaw := by
  intro i
  rw [h.1, h.2]
  exact hs i

theorem holdLaw_of_same {s t : State} (h : s.SameTables t) (hs : s.HoldLaw) : t.HoldLaw :=
  holdLaw_congr ⟨h.contract, h.hold⟩ hs

/-- What leaves the other sources alone keeps the law where it holds at its own source. -/
theorem holdLaw_of_source {s t : State} {src : Fin 32} (hs : s.HoldLaw)
    (hothers : ∀ i, i ≠ src → t.contract i = s.contract i ∧ t.hold i = s.hold i) (hsrc : (t.contract src).HoldLaw (t.hold src)) :
    t.HoldLaw := by
  intro i
  by_cases hi : i = src
  · rw [hi]
    exact hsrc
  · obtain ⟨hc, hh⟩ := hothers i hi
    rw [hc, hh]
    exact hs i

theorem setContract_holdLaw {s : State} {src : Fin 32} {c : Contract} (hs : s.HoldLaw) (hc : c.HoldLaw (s.hold src)) :
    (s.setContract src c).HoldLaw :=
  holdLaw_of_source (src := src) hs (fun i hi => by simp [hi]) (by simpa using hc)

/-- A source whose list is emptied may come to any state and balance (R41, R43, R96). -/
theorem holdLaw_of_emptied {s t : State} {src : Fin 32} (hs : s.HoldLaw)
    (hothers : ∀ i, i ≠ src → t.contract i = s.contract i ∧ t.hold i = s.hold i) (hempty : t.hold src = []) : t.HoldLaw :=
  holdLaw_of_source hs hothers (hempty ▸ Contract.holdLaw_nil _)

/-- A source outside PACED may come to any state and balance, since it holds nothing (R60). -/
theorem setContract_holdLaw_of_not_paced {s : State} {src : Fin 32} (hs : s.HoldLaw) (hp : (s.contract src).state ≠ .paced)
    (c : Contract) : (s.setContract src c).HoldLaw :=
  setContract_holdLaw hs ((hs src).1 hp ▸ Contract.holdLaw_nil c)

/-- Applying a staged copy clips the balance (R37). -/
theorem applied_balance_le (c : Contract) : c.applied.balance ≤ c.balance := by
  cases hx : c.staged with
  | none => rw [Contract.applied_of_none hx]
  | some x =>
    rw [Contract.applied_of_some hx]
    exact Nat.min_le_left _ _

theorem applyStaged_holdLaw {s : State} (hs : s.HoldLaw) (src : Fin 32) : (s.applyStaged src).HoldLaw := by
  refine holdLaw_of_source (src := src) hs (fun i hi => ?_) ?_
  · simp [applyStaged_contract_applied, hi]
  · simp only [applyStaged_contract_applied, if_true, State.applyStaged_frame]
    exact Contract.HoldLaw.lowered (hs src) (Contract.applied_state _) (applied_balance_le _)

theorem holdLaw_of_empty {s : State} (h : ∀ i, s.hold i = []) : s.HoldLaw := by
  intro i
  rw [h i]
  exact Contract.holdLaw_nil _

/-! ### The drain and the head check -/

/-- The law while a drain of `src` is still to come: the balance of that source may cover its head. -/
structure State.DrainReady (s : State) (src : Fin 32) : Prop where
  others : ∀ i, i ≠ src → (s.contract i).HoldLaw (s.hold i)
  paced : (s.contract src).state ≠ .paced → s.hold src = []

/-- The law's part that a drain needs does not read the source's balance. -/
theorem drainReady_of_holdLaw {s t : State} {src : Fin 32} (hs : s.HoldLaw)
    (hothers : ∀ i, i ≠ src → t.contract i = s.contract i ∧ t.hold i = s.hold i)
    (hsrc : (t.contract src).state = (s.contract src).state ∧ t.hold src = s.hold src) : t.DrainReady src where
  others i hi := by
    obtain ⟨hc, hh⟩ := hothers i hi
    rw [hc, hh]
    exact hs i
  paced := by
    rw [hsrc.1, hsrc.2]
    exact (hs src).1

/-- The drain goes on until the balance does not cover the head (R70). -/
theorem drain_holdLaw {s : State} {src : Fin 32} (h : s.DrainReady src) : (s.drain src).HoldLaw := by
  obtain ⟨k, -, hhold, hcontract, -, -, hhead⟩ := State.drain_spec s src
  intro i
  rw [hhold, hcontract]
  by_cases hi : i = src
  · rw [if_pos hi, if_pos hi]
    exact ⟨fun hp => by rw [h.paced hp, List.drop_nil], hhead⟩
  · rw [if_neg hi, if_neg hi]
    exact h.others i hi

/-- A head check drains after each expiry (R76). -/
theorem cascadeFuel_holdLaw (src : Fin 32) (n : Nat) {s : State} (hs : s.HoldLaw) : (State.cascadeFuel src n s).HoldLaw := by
  induction n generalizing s with
  | zero => exact hs
  | succ n ih =>
    unfold State.cascadeFuel
    split
    · exact hs
    · rename_i r rest hcons
      split
      · rename_i hlimit
        obtain ⟨hpaced, -⟩ := (reachedLimit_iff s src r).1 hlimit
        refine ih (drain_holdLaw ⟨fun i hi => ?_, fun hp => absurd (by simpa using hpaced) hp⟩)
        simp only [State.expireHead_hold, if_neg hi, State.expireHead_frame]
        exact hs i
      · exact hs

theorem headCheck_holdLaw {s : State} (hs : s.HoldLaw) (src : Fin 32) : (s.headCheck src).HoldLaw :=
  cascadeFuel_holdLaw src _ hs

theorem drainAndCheck_holdLaw {s : State} {src : Fin 32} (h : s.DrainReady src) : (s.drainAndCheck src).HoldLaw :=
  headCheck_holdLaw (drain_holdLaw h) src

/-! ### Boundaries, window ends and edges -/

theorem setEdgeCount_holdLaw {s : State} (hs : s.HoldLaw) (src : Fin 32) (n : Nat) : (s.setEdgeCount src n).HoldLaw :=
  setContract_holdLaw hs (hs src)

theorem nextPeriod_holdLaw {s : State} (hs : s.HoldLaw) (src : Fin 32) : (s.nextPeriod src).HoldLaw := by
  unfold State.nextPeriod
  split
  · exact setContract_holdLaw hs (hs src)
  · exact setEdgeCount_holdLaw hs src 0

theorem nextPeriod_contract (s : State) (src i : Fin 32) :
    ((s.nextPeriod src).contract i).state = (s.contract i).state ∧ (i ≠ src → (s.nextPeriod src).contract i = s.contract i) := by
  unfold State.nextPeriod
  by_cases hi : i = src
  · subst hi
    split <;> simp [State.setEdgeCount_contract]
  · split <;> simp [State.setEdgeCount_contract, hi]

theorem refill_state (s : State) (src i : Fin 32) : ((s.refill src).contract i).state = (s.contract i).state := by
  rw [State.refill_contract]
  split
  · next hi => rw [hi]
  · rfl

/-- A boundary refills the balance, and then drains the list (R93). -/
theorem takeBoundary_holdLaw {s : State} (hs : s.HoldLaw) (src : Fin 32) : (s.takeBoundary src).HoldLaw := by
  refine drainAndCheck_holdLaw (drainReady_of_holdLaw (applyStaged_holdLaw hs src) (fun i hi => ?_) ?_)
  · rw [(nextPeriod_contract _ src i).2 hi, State.refill_contract, if_neg hi]
    simp
  · rw [(nextPeriod_contract _ src src).1, refill_state]
    simp

theorem takeWindowEnd_hold (s : State) (src i : Fin 32) : (s.takeWindowEnd src).hold i = if i = src then [] else s.hold i := by
  simp [State.takeWindowEnd, State.setHold_hold]

theorem takeWindowEnd_holdLaw {s : State} (hs : s.HoldLaw) (src : Fin 32) : (s.takeWindowEnd src).HoldLaw :=
  holdLaw_of_emptied (src := src) hs
    (fun i hi => by rw [takeWindowEnd_contract, takeWindowEnd_hold, if_neg hi, if_neg hi]; exact ⟨rfl, rfl⟩)
    (by rw [takeWindowEnd_hold, if_pos rfl])

theorem countEdge_holdLaw {s : State} (hs : s.HoldLaw) (n : Fin 4) (src : Fin 32) : (s.countEdge n src).HoldLaw := by
  have hcount := setEdgeCount_holdLaw hs src ((s.contract src).edgeCount + 1)
  simp only [State.countEdge]
  split
  · split
    · exact takeBoundary_holdLaw hcount src
    · exact hcount
  · exact hs

theorem countEdges_holdLaw {s : State} (hs : s.HoldLaw) (n : Fin 4) (l : List (Fin 32)) : (s.countEdges n l).HoldLaw := by
  induction l generalizing s with
  | nil => exact hs
  | cons src rest ih => exact ih (countEdge_holdLaw hs n src)

/-! ### Trigger lines -/

theorem setLine_holdLaw {s : State} (hs : s.HoldLaw) (n : Fin 4) (l : Line) : (s.setLine n l).HoldLaw := hs

theorem settle_holdLaw {s : State} (hs : s.HoldLaw) (n : Fin 4) (level : Level) : (s.settle n level).HoldLaw := by
  have hline := setLine_holdLaw hs n { s.line n with settled := level, transition := none }
  simp only [State.settle]
  split
  · exact countEdges_holdLaw hline n _
  · exact hline

theorem pinChange_holdLaw {s : State} (hs : s.HoldLaw) (n : Fin 4) (level : Level) : (s.pinChange n level).HoldLaw := by
  simp only [State.pinChange]
  split
  · exact setLine_holdLaw hs n _
  · split
    · exact settle_holdLaw (setLine_holdLaw hs n _) n level
    · exact setLine_holdLaw hs n _

theorem writeLine_holdLaw {s : State} (hs : s.HoldLaw) (n : Fin 4) (edge : EdgeSetting) (filter : Nat) :
    (s.writeLine n edge filter).HoldLaw := by
  simp only [State.writeLine]
  split
  · exact setLine_holdLaw hs n _
  · split
    · exact settle_holdLaw (setLine_holdLaw hs n _) n _
    · exact setLine_holdLaw hs n _

/-! ### Source commands, CONTRACT_WRITE and TRAFFIC_RESET -/

@[simp] theorem halt_hold (s : State) (src i : Fin 32) (st : SourceState) : (s.halt src st).hold i = s.hold i := by
  simp [State.halt]

theorem disableSource_holdLaw {s : State} (hs : s.HoldLaw) (src : Fin 32) : (s.disableSource src).HoldLaw := by
  by_cases hp : (s.contract src).state = .paced
  · rw [disableSource_of_paced hp, disablePaced_eq]
    refine holdLaw_of_same (releaseList_sameTables _ src (s.hold src)) (holdLaw_of_emptied (src := src) hs (fun i hi => ?_) ?_)
    · simp [halt_contract, hi]
    · simp
  · rw [disableSource_of_not_paced hp]
    exact setContract_holdLaw_of_not_paced hs hp _

theorem barSource_holdLaw {s : State} (hs : s.HoldLaw) (src : Fin 32) : (s.barSource src).HoldLaw := by
  rw [barSource_eq s src _ rfl]
  refine holdLaw_of_emptied (src := src) hs (fun i hi => ?_) ?_
  · simp [halt_contract, hi]
  · simp

/-- ARM gives a whole budget, and then drains the list (R46). -/
theorem armSource_holdLaw {s : State} (hs : s.HoldLaw) (src : Fin 32) : (s.armSource src).HoldLaw := by
  rw [armSource_eq]
  refine drainAndCheck_holdLaw ⟨fun i hi => ?_, fun hp => absurd (by simp [Contract.started]) hp⟩
  rw [State.setContract_contract_ne _ _ _ _ hi]
  exact applyStaged_holdLaw hs src i

/-- What a source command may find, its effect keeps (R39). -/
theorem answerSource_holdLaw {cmd : SourceCmd} {effect : State → Fin 32 → State} {s : State} (hs : s.HoldLaw)
    (he : ∀ src, SourceCmd.allowed cmd (s.contract src) = true → (effect s src).HoldLaw) (f : Frame) :
    (answerSource cmd effect f s).state.HoldLaw := by
  unfold answerSource
  repeat' split
  any_goals exact hs
  rename_i hallowed
  exact he _ (by simpa using hallowed)

theorem answerContractWrite_holdLaw {s : State} (hs : s.HoldLaw) (f : Frame) : (answerContractWrite f s).state.HoldLaw := by
  unfold answerContractWrite
  repeat' split
  any_goals exact hs
  · exact setContract_holdLaw hs (hs _)
  · exact setContract_holdLaw_of_not_paced hs ‹_› _

theorem answerLineWrite_holdLaw {s : State} (hs : s.HoldLaw) (f : Frame) : (answerLineWrite f s).state.HoldLaw := by
  unfold answerLineWrite
  repeat' split
  any_goals exact hs
  exact writeLine_holdLaw hs _ _ _

theorem restartContracts_hold (s : State) (l : List (Fin 32)) (i : Fin 32) : (s.restartContracts l).hold i = s.hold i := by
  induction l generalizing s with
  | nil => rfl
  | cons src rest ih =>
    rw [State.restartContracts, ih]
    by_cases hp : (s.contract src).state = .paced
    · simp [restartContract_of_paced hp]
    · rw [State.restartContract, if_neg hp]

theorem answerTrafficReset_holdLaw {s : State} (hs : s.HoldLaw) (f : Frame) : (answerTrafficReset f s).state.HoldLaw := by
  unfold answerTrafficReset
  split
  · exact hs
  · refine holdLaw_of_empty fun i => ?_
    simp only [State.resetTraffic, restartContracts_hold]
    simp [State.hold, State.abortTraffic]

/-- A management command keeps the law where its effect does. -/
theorem manage_holdLaw {s t : State} {opcode : Byte} {a : Answer} (hs : s.HoldLaw) (ha : a.state.HoldLaw)
    (h : s.manage opcode a = .next t) : t.HoldLaw := by
  by_cases hl : s.listening
  · rw [manage_listening hl] at h
    cases h
    exact ha
  · rw [manage_not_listening hl] at h
    cases h
    exact hs

/-- A command with its length judged first (R173). -/
theorem manage_judged_holdLaw {s t : State} {opcode : Byte} {f : Frame} {a : Answer} (hs : s.HoldLaw) (ha : a.state.HoldLaw)
    (h : s.manage opcode (judged f s a) = .next t) : t.HoldLaw := by
  refine manage_holdLaw hs ?_ h
  unfold judged
  split
  · exact hs
  · exact ha

/-- The management commands that write neither a contract nor a hold list. -/
theorem manage_same_holdLaw {s t : State} {opcode : Byte} {f : Frame} {a : Answer} (hs : s.HoldLaw) (ha : s.SameTables a.state)
    (h : s.manage opcode (judged f s a) = .next t) : t.HoldLaw :=
  manage_judged_holdLaw hs (holdLaw_of_same ha hs) h

/-- The management commands that only read. -/
theorem manage_read_holdLaw {s t : State} {opcode : Byte} {f : Frame} {a : Answer} (hs : s.HoldLaw) (ha : a.state = s)
    (h : s.manage opcode (judged f s a) = .next t) : t.HoldLaw :=
  manage_judged_holdLaw hs (ha ▸ hs) h

/-- The commands of the management port. -/
theorem exec_management_holdLaw {c : Instr} {s t : State} (hc : c.frame?.isSome = true) (hs : s.HoldLaw) (h : exec c s = .next t) :
    t.HoldLaw := by
  cases c with
  | enable f =>
    refine manage_judged_holdLaw hs (answerSource_holdLaw hs (fun src hallowed => ?_) f) h
    have hunpaced : (s.contract src).state = .unpaced := of_decide_eq_true hallowed
    rw [enableSource_eq]
    exact setContract_holdLaw_of_not_paced hs (by rw [hunpaced]; decide) _
  | disable f => exact manage_judged_holdLaw hs (answerSource_holdLaw hs (fun src _ => disableSource_holdLaw hs src) f) h
  | bar f => exact manage_judged_holdLaw hs (answerSource_holdLaw hs (fun src _ => barSource_holdLaw hs src) f) h
  | unbar f =>
    refine manage_judged_holdLaw hs (answerSource_holdLaw hs (fun src hallowed => ?_) f) h
    have hbarred : (s.contract src).state = .barred := of_decide_eq_true hallowed
    exact setContract_holdLaw_of_not_paced hs (by rw [hbarred]; decide) _
  | arm f => exact manage_judged_holdLaw hs (answerSource_holdLaw hs (fun src _ => armSource_holdLaw hs src) f) h
  | contractWrite f => exact manage_judged_holdLaw hs (answerContractWrite_holdLaw hs f) h
  | lineWrite f => exact manage_judged_holdLaw hs (answerLineWrite_holdLaw hs f) h
  | trafficReset f => exact manage_judged_holdLaw hs (answerTrafficReset_holdLaw hs f) h
  | classWrite f => exact manage_same_holdLaw hs (answerClassWrite_sameTables s f) h
  | countersRead f => exact manage_same_holdLaw hs (answerCounters_sameTables s f fun _ => .refl s) h
  | countersReadClear f => exact manage_same_holdLaw hs (answerCounters_sameTables s f (clearGroup_sameTables s)) h
  | status f => exact manage_same_holdLaw hs (answerStatus_sameTables s f) h
  | globalWrite f => exact manage_same_holdLaw hs (answerGlobalWrite_sameTables s f) h
  | regionWrite f => exact manage_same_holdLaw hs (answerRegionWrite_sameTables s f) h
  | eventRelease f => exact manage_same_holdLaw hs (answerEventRelease_sameTables s f) h
  | unknownOpcode o f => exact manage_holdLaw hs hs h
  | identify f => exact manage_read_holdLaw hs (answerIdentify_state f s) h
  | timeRead f => exact manage_read_holdLaw hs (answerTimeRead_state f s) h
  | globalRead f => exact manage_read_holdLaw hs (answerGlobalRead_state f s) h
  | eventRead f => exact manage_read_holdLaw hs (answerEventRead_state f s) h
  | contractRead f => exact manage_read_holdLaw hs (answerContractRead_state f s) h
  | holdRead f => exact manage_read_holdLaw hs (answerHoldRead_state f s) h
  | regionRead f => exact manage_read_holdLaw hs (answerRegionRead_state f s) h
  | classRead f => exact manage_read_holdLaw hs (answerClassRead_state f s) h
  | lineRead f => exact manage_read_holdLaw hs (answerLineRead_state f s) h
  | _ => cases hc

/-! ### Requests -/

/-- A request held behind others, or one that the balance does not cover, of a PACED source (R67). -/
theorem holdRequest_holdLaw {s : State} (hs : s.HoldLaw) (src : Fin 32) (r : StoredReq) (hp : (s.contract src).state = .paced)
    (hhead : s.hold src = [] → (s.contract src).balance < r.charge) : (s.holdRequest src r).HoldLaw := by
  have hjoined : (s.setHold src (s.hold src ++ [r])).HoldLaw := by
    refine holdLaw_of_source (src := src) hs (fun i hi => by simp [hi]) ⟨fun h => absurd hp h, ?_⟩
    obtain ⟨-, hcovered⟩ := hs src
    cases hlist : s.hold src with
    | nil => simpa using hhead hlist
    | cons a rest => simpa [hlist] using hcovered
  refine holdLaw_congr ?_ hjoined
  simp only [State.holdRequest]
  split <;> simp

/-- A source that has a slot given is UNPACED or PACED (R62). -/
theorem placeArrival_holdLaw {s : State} (hs : s.HoldLaw) (r : StoredReq)
    (hst : (s.contract r.source).state = .unpaced ∨ (s.contract r.source).state = .paced) : (s.placeArrival r).HoldLaw := by
  simp only [State.placeArrival]
  split
  · exact holdLaw_congr (by simp) hs
  · rename_i hunpaced
    split
    · rename_i hfit
      exact holdLaw_of_emptied (src := r.source) hs (fun i hi => by simp [State.queueCharged_contract, hi]) (by simpa using hfit.1)
    · rename_i hwait
      split
      · exact holdRequest_holdLaw hs r.source r (hst.resolve_left hunpaced)
          fun hnil => by simpa [hnil] using hwait
      · exact holdLaw_congr (by simp) hs

theorem decideArrival_holdLaw {s : State} (hs : s.HoldLaw) (q : Request) (k : Kind) (tag : Fin 16) :
    (s.decideArrival q k tag).HoldLaw := by
  have hrefuse (reason : Reason) : (s.refuse q.source tag reason).HoldLaw := holdLaw_congr (by simp) hs
  unfold State.decideArrival
  split
  · exact hrefuse _
  · split
    · exact hrefuse _
    · exact hrefuse _
    all_goals
      rename_i hst
      split
      · exact hrefuse _
      · exact placeArrival_holdLaw hs _ (by simp [hst])

theorem arrived_holdLaw {s : State} (hs : s.HoldLaw) (src : Fin 32) (tag : Fin 16) : (s.arrived src tag).HoldLaw :=
  holdLaw_congr (by simp) hs

/-- The four ways a take goes (R5, R7 to R10). -/
theorem takeRequest_holdLaw {s : State} (hs : s.HoldLaw) (q : Request) : (s.takeRequest q).HoldLaw := by
  obtain ⟨hnone, -⟩ | ⟨tag, hq, -⟩ := liveTag_cases q.tag
  · rw [takeRequest_of_badTag hnone]
    exact holdLaw_of_same (refuseMalformed_sameTables _ _ _) hs
  cases hlive : s.live q.source tag with
  | true =>
    rw [takeRequest_of_live hq hlive]
    exact holdLaw_of_same (dropDuplicate_sameTables _ _ _) hs
  | false =>
    by_cases hform : ∀ k, q.kind = some k → badForm q k = true
    · rw [takeRequest_of_badForm hq hlive hform]
      exact holdLaw_of_same (refuseMalformed_sameTables _ _ _) hs
    · push Not at hform
      obtain ⟨k, hk, hform⟩ := hform
      rw [takeRequest_of_goodForm hq hlive hk (by simpa using hform)]
      exact decideArrival_holdLaw (arrived_holdLaw hs _ _) q k tag

/-! ### Every command -/

/-- An outcome chosen by a test keeps the law where both of its ways do. -/
theorem ite_holdLaw {p : Prop} [Decidable p] {t u v : State}
    (h : (if p then (.next u : Host.Outcome State Fault Refusal) else .next v) = .next t) (hu : u.HoldLaw) (hv : v.HoldLaw) :
    t.HoldLaw := by
  split at h <;> cases h
  · exact hu
  · exact hv

theorem execUpstreamReset_holdLaw {s t : State} (hs : s.HoldLaw) (h : execUpstreamReset s = .next t) : t.HoldLaw := by
  unfold execUpstreamReset at h
  split at h
  · cases h
    exact hs
  · exact ite_holdLaw h hs (holdLaw_of_empty fun i => by simp)

theorem execHandOver_holdLaw {s t : State} (hs : s.HoldLaw) (h : execHandOver s = .next t) : t.HoldLaw := by
  unfold execHandOver at h
  split at h <;> cases h
  · exact hs
  · exact holdLaw_of_same (handOverHead_sameTables s _) hs

theorem execGrant_holdLaw {s t : State} (hs : s.HoldLaw) (h : execGrant s = .next t) : t.HoldLaw := by
  unfold execGrant at h
  repeat' split at h
  all_goals
    cases h
    exact hs

theorem execResponseTimeout_holdLaw {s t : State} {d : Fin 64} (hs : s.HoldLaw) (h : execResponseTimeout d s = .next t) :
    t.HoldLaw := by
  unfold execResponseTimeout at h
  repeat' split at h
  all_goals cases h
  · exact holdLaw_of_same (timeOut_sameTables s d _) hs
  all_goals exact hs

theorem execTransitionSettles_holdLaw {s t : State} {n : Fin 4} (hs : s.HoldLaw) (h : execTransitionSettles n s = .next t) :
    t.HoldLaw := by
  unfold execTransitionSettles at h
  repeat' split at h
  all_goals cases h
  · exact settle_holdLaw hs n _
  all_goals exact hs

theorem execTriggerPinChange_holdLaw {s t : State} {n : Fin 4} {level : Level} (hs : s.HoldLaw)
    (h : execTriggerPinChange n level s = .next t) : t.HoldLaw := by
  unfold execTriggerPinChange at h
  split at h
  · cases h
    exact setLine_holdLaw hs n _
  · exact ite_holdLaw h hs (pinChange_holdLaw hs n level)

theorem execCommandCut_holdLaw {s t : State} {bytes : List Byte} (hs : s.HoldLaw) (h : execCommandCut bytes s = .next t) :
    t.HoldLaw := by
  unfold execCommandCut at h
  split at h
  · cases h
    exact hs
  · exact ite_holdLaw h hs hs

theorem execResponseCut_holdLaw {s t : State} {n : Nat} (hs : s.HoldLaw) (h : execResponseCut n s = .next t) : t.HoldLaw := by
  unfold execResponseCut at h
  split at h
  · cases h
    exact hs
  · exact ite_holdLaw h hs hs

theorem exec_holdLaw {c : Instr} {s t : State} (hs : s.HoldLaw) (h : exec c s = .next t) : t.HoldLaw := by
  cases c with
  | powerOnReset mcsN =>
    cases h
    exact holdLaw_of_empty fun i => State.powerOn_hold i
  | resetNFall => exact ite_holdLaw h hs (holdLaw_of_empty (State.abandon_hold s))
  | upstreamReset => exact execUpstreamReset_holdLaw hs h
  | upRdyRise =>
    cases h
    exact hs
  | downstreamDown => exact ite_holdLaw h hs (holdLaw_of_same (raise_sameTables s.dropDownstream _) hs)
  | downstreamUp => exact ite_holdLaw h hs (holdLaw_of_same (raise_sameTables s.loadCredits _) hs)
  | take header data => exact ite_holdLaw h (takeRequest_holdLaw hs _) hs
  | handOver => exact execHandOver_holdLaw hs h
  | grant => exact execGrant_holdLaw hs h
  | downstreamCompletion header data => exact ite_holdLaw h hs (holdLaw_of_same (matchCompletion_sameTables s _) hs)
  | responseTimeout d => exact execResponseTimeout_holdLaw hs h
  | boundary src => exact ite_holdLaw h (takeBoundary_holdLaw hs src) hs
  | headExpiry src => exact ite_holdLaw h (headCheck_holdLaw hs src) hs
  | windowEnd src => exact ite_holdLaw h (takeWindowEnd_holdLaw hs src) hs
  | triggerPinChange n level => exact execTriggerPinChange_holdLaw hs h
  | transitionSettles n => exact execTransitionSettles_holdLaw hs h
  | commandCut bytes => exact execCommandCut_holdLaw hs h
  | responseCut n => exact execResponseCut_holdLaw hs h
  | _ => exact exec_management_holdLaw rfl hs h

/-- Settles O53: a step takes one command, or none, on a state with the same contracts and hold lists. -/
theorem stepKeepsHoldLaw : Obligations.StepKeepsHoldLaw := by
  intro s t hs h
  obtain ⟨u, hu, h⟩ := step_cases h
  have hlaw : u.HoldLaw := by
    rw [hu]
    exact hs
  obtain ⟨c, h⟩ | rfl | rfl := h
  · exact exec_holdLaw hlaw h
  · unfold State.tick
    split <;> exact hlaw
  · exact hlaw

end Sys2Proof.Machine
end

section
/-! The Admission Unit: refusals, the arrival decision, the drain and the head check, and the statements about single commands of
chapter 4. -/

namespace Sys2Proof.Machine

/-! ### Refusals (R63, R79) -/

/-- Refusals write the Return Queue, the sources' counts and the event queue alone. -/
theorem refuseList_eq (s : State) (reason : Reason) (l : List StoredReq) :
    s.refuseList reason l = { s with
      returnQ := (s.refuseList reason l).returnQ, srcCounts := (s.refuseList reason l).srcCounts
      evq := (s.refuseList reason l).evq } := by
  have h := State.refuseList_frame s reason l
  generalize s.refuseList reason l = t at *
  cases t
  simp_all

theorem refuse_refusedCount (s : State) (src i : Fin 32) (tag : Fin 16) (reason : Reason) :
    ((s.refuse src tag reason).srcCount i).refusedCount =
      (s.srcCount i).refusedCount + BitVec.ofNat 32 (if src = i then 1 else 0) := by
  rw [State.refuse_srcCount]
  by_cases hi : i = src
  · simp [hi]
  · simp [hi, Ne.symm hi]

/-- Each refusal of a list counts once, at the source of its request. -/
theorem refuseList_refusedCount (s : State) (reason : Reason) (l : List StoredReq) (i : Fin 32) :
    ((s.refuseList reason l).srcCount i).refusedCount =
      (s.srcCount i).refusedCount + BitVec.ofNat 32 (l.countP fun r => r.source = i) := by
  induction l generalizing s with
  | nil => simp [State.refuseList]
  | cons r rest ih =>
    rw [State.refuseList, ih, refuse_refusedCount, List.countP_cons, Nat.add_comm (List.countP _ rest), BitVec.ofNat_add,
      ← BitVec.add_assoc]
    simp only [decide_eq_true_eq]

/-- Settles O47: a refusal is its three writes, and a list of them is refused one by one. -/
theorem refusalAnswersCountsAndRecords : Obligations.RefusalAnswersCountsAndRecords :=
  ⟨fun _ _ _ _ => rfl, fun _ _ _ _ => ⟨rfl, rfl⟩, fun s reason l =>
    ⟨refuseList_eq s reason l, State.refuseList_returnQ s reason l, refuseList_refusedCount s reason l⟩⟩

/-! ### The arrival decision (R62) -/

section decideArrival

variable {s : State} {q : Request} (k : Kind) (tag : Fin 16)

/-- Step 1: BLOCKED, whatever the state of the source (R62). -/
theorem decideArrival_of_blocked (h : s.decodeRegion q.address q.source q.beats = none) :
    s.decideArrival q k tag = s.refuse q.source tag .blocked := by
  simp only [State.decideArrival, h]

variable {charge : Nat} (hd : s.decodeRegion q.address q.source q.beats = some charge)
include hd

/-- Step 2: BARRED. -/
theorem decideArrival_of_barred (h : (s.contract q.source).state = .barred) :
    s.decideArrival q k tag = s.refuse q.source tag .barred := by
  simp only [State.decideArrival, hd, h]

/-- Step 3: SPENT. -/
theorem decideArrival_of_spent (h : (s.contract q.source).state = .spent) :
    s.decideArrival q k tag = s.refuse q.source tag .spent := by
  simp only [State.decideArrival, hd, h]

/-- Step 4: STORE_FULL (R64). -/
theorem decideArrival_of_full (hb : (s.contract q.source).state ≠ .barred) (hs : (s.contract q.source).state ≠ .spent)
    (h : s.freeSlot = none) : s.decideArrival q k tag = s.refuse q.source tag .storeFull := by
  simp only [State.decideArrival, hd, h]
  cases hst : (s.contract q.source).state with
  | unpaced => rfl
  | paced => rfl
  | spent => exact absurd hst hs
  | barred => exact absurd hst hb

/-- Past step 4 the request has a slot (R59). -/
theorem decideArrival_of_slot {slot : Fin 96} (hst : (s.contract q.source).state = .unpaced ∨ (s.contract q.source).state = .paced)
    (h : s.freeSlot = some slot) : s.decideArrival q k tag = s.placeArrival (s.recordOf q k tag slot charge) := by
  rcases hst with hst | hst <;> simp only [State.decideArrival, hd, h, hst] <;> rfl

end decideArrival

/-- A refusal of an arrival: the Return Queue is the one that the take found. -/
theorem refuse_arrived (s : State) (src : Fin 32) (tag : Fin 16) (reason : Reason) :
    (s.arrived src tag).refuse src tag reason =
      (({ s.arrived src tag with returnQ := s.returnQ ++ [⟨src, wireTag tag, .refused reason, []⟩] } : State).countSource src
        .refusedCount 1).raise (.refusal src (wireTag tag) reason) := by
  rw [← arrived_returnQ s src tag]
  rfl

/-- Settles O12: each of the four steps is reached past the ones before it, and the arrival reads what the take found. -/
theorem takeRefusesAtArrival : Obligations.TakeRefusesAtArrival := by
  intro header data s k tag reason q decision state hacc hreason
  rw [exec_take_accepted hacc, ← refuse_arrived]
  refine congrArg Host.Outcome.next ?_
  have hdecision : (s.arrived q.source tag).decodeRegion q.address q.source q.beats = decision := arrived_decodeRegion s _ _ _ _ _
  have hstate : ((s.arrived q.source tag).contract q.source).state = state := by rw [arrived_contract]
  have hcharge (hsome : decision ≠ none) := Option.ne_none_iff_exists'.1 (hdecision ▸ hsome)
  rw [← hstate] at hreason
  rcases hreason with ⟨rfl, hnone⟩ | ⟨rfl, hsome, hst⟩ | ⟨rfl, hsome, hst⟩ | ⟨rfl, hsome, hbarred, hspent, hfull⟩
  · exact decideArrival_of_blocked k tag (hdecision.trans hnone)
  · obtain ⟨charge, hcharge⟩ := hcharge hsome
    exact decideArrival_of_barred k tag hcharge hst
  · obtain ⟨charge, hcharge⟩ := hcharge hsome
    exact decideArrival_of_spent k tag hcharge hst
  · obtain ⟨charge, hcharge⟩ := hcharge hsome
    exact decideArrival_of_full k tag hcharge hbarred hspent (by rw [arrived_freeSlot, freeSlot_eq_none hfull])

/-! ### The arrival with a slot (R65 to R68) -/

/-- The balance pays and the request joins its class queue (R66, R70). -/
theorem setBalance_enqueue (s : State) (src : Fin 32) (b : Nat) (r : StoredReq) :
    (s.setBalance src b).enqueue src r = (s.setContract src { s.contract src with balance := b }).setQueue
      (s.contract src).settings.cls (s.queue (s.contract src).settings.cls ++ [r]) := by
  rw [State.enqueue, State.setBalance, State.setContract_contract_self, State.setContract_queue]

/-- What a charge counts by its size (R69, R70). -/
theorem queueCharged_eq (s : State) (src : Fin 32) (r : StoredReq) :
    s.queueCharged src r = (((s.setContract src { s.contract src with balance := (s.contract src).balance - r.charge }).setQueue
      (s.contract src).settings.cls (s.queue (s.contract src).settings.cls ++ [r])).countSource src
        (if r.charge = 0 then .freeBeats else .chargedBeats) (if r.charge = 0 then r.beats else r.charge)) := by
  rw [State.queueCharged, setBalance_enqueue]

theorem queueCharged_of_charge {s : State} {src : Fin 32} {r : StoredReq} (h : r.charge ≠ 0) :
    s.queueCharged src r = ((s.setContract src { s.contract src with balance := (s.contract src).balance - r.charge }).setQueue
      (s.contract src).settings.cls (s.queue (s.contract src).settings.cls ++ [r])).countSource src .chargedBeats r.charge := by
  rw [queueCharged_eq, if_neg h, if_neg h]

theorem queueCharged_of_free {s : State} {src : Fin 32} {r : StoredReq} (h : r.charge = 0) :
    s.queueCharged src r = (s.setQueue (s.contract src).settings.cls
      (s.queue (s.contract src).settings.cls ++ [r])).countSource src .freeBeats r.beats := by
  rw [queueCharged_eq, if_pos h, if_pos h, h, Nat.sub_zero, setContract_self]

section placeArrival

variable {s : State} {r : StoredReq}

/-- An UNPACED source's request is queued uncharged (R65). -/
theorem placeArrival_of_unpaced (h : (s.contract r.source).state = .unpaced) :
    s.placeArrival r = (s.enqueue r.source r).countSource r.source .freeBeats r.beats := by
  rw [State.placeArrival, if_pos h]

variable (hp : (s.contract r.source).state = .paced)
include hp

/-- A request that the balance covers, with none held before it, is charged and queued (R66). -/
theorem placeArrival_of_covered (h : s.hold r.source = [] ∧ r.charge ≤ (s.contract r.source).balance) :
    s.placeArrival r = s.queueCharged r.source r := by
  rw [State.placeArrival, if_neg (by simp [hp]), if_pos h]

/-- Below the hold limit any other request is held (R67). -/
theorem placeArrival_of_waiting (h : ¬ (s.hold r.source = [] ∧ r.charge ≤ (s.contract r.source).balance))
    (hlt : (s.hold r.source).length < (s.contract r.source).settings.holdLimit) :
    s.placeArrival r = s.holdRequest r.source r := by
  rw [State.placeArrival, if_neg (by simp [hp]), if_neg h, if_pos hlt]

/-- At the hold limit it is refused (R68). -/
theorem placeArrival_of_holdFull (h : ¬ (s.hold r.source = [] ∧ r.charge ≤ (s.contract r.source).balance))
    (hle : (s.contract r.source).settings.holdLimit ≤ (s.hold r.source).length) :
    s.placeArrival r = s.refuse r.source r.tag .holdFull := by
  rw [State.placeArrival, if_neg (by simp [hp]), if_neg h, if_neg (not_lt.2 hle)]

end placeArrival

/-- The record of an arrival has the time of its take (R59). -/
theorem arrived_recordOf (s : State) (src : Fin 32) (tag : Fin 16) (q : Request) (k : Kind) (t : Fin 16) (slot : Fin 96)
    (charge : Nat) : (s.arrived src tag).recordOf q k t slot charge = s.recordOf q k t slot charge := by
  rw [State.recordOf, arrived_timeBase, State.recordOf]

/-- An accepted request of a source that may have a slot, with a charge and a FREE slot, is placed (R59, R62). -/
theorem exec_take_placed {s : State} {header : BitVec 64} {data : List Beat} {q : Request} {k : Kind} {tag : Fin 16} {slot : Fin 96}
    {charge : Nat} (hq : q = Request.ofMessage header data) (hacc : s.accepts q k tag)
    (hd : s.decodeRegion q.address q.source q.beats = some charge) (hfree : s.slotState slot = .free)
    (hlow : ∀ i < slot, s.slotState i ≠ .free)
    (hst : (s.contract q.source).state = .unpaced ∨ (s.contract q.source).state = .paced) :
    exec (.take header data) s = .next ((s.arrived q.source tag).placeArrival (s.recordOf q k tag slot charge)) := by
  subst hq
  rw [exec_take_accepted hacc, decideArrival_of_slot k tag ((arrived_decodeRegion s _ _ _ _ _).trans hd)
    (by rwa [arrived_contract]) ((arrived_freeSlot s _ _).trans (freeSlot_eq_some hfree hlow)), arrived_recordOf]

/-- Settles O13: the state, list and balance of the source are as the take found them, so one case of the placement applies. -/
theorem takeQueuesAtOnce : Obligations.TakeQueuesAtOnce := by
  intro header data s k tag slot charge q old c queued paid hacc hd hfree hlow
  have hplace := exec_take_placed rfl hacc hd hfree hlow
  have hcontract : (s.arrived q.source tag).contract q.source = old := arrived_contract s _ _ _
  have hqueue : (s.arrived q.source tag).queue c = s.queue c := arrived_queue s _ _ _
  have hlist : (s.arrived q.source tag).hold q.source = s.hold q.source := arrived_hold s _ _ _
  have hsrc : (s.recordOf q k tag slot charge).source = q.source := rfl
  have henqueue : (s.arrived q.source tag).enqueue q.source (s.recordOf q k tag slot charge) = queued := by
    rw [State.enqueue, hcontract, hqueue]
  have hcovered (hst : old.state = .paced) (hnil : s.hold q.source = []) (hle : charge ≤ old.balance) :
      exec (.take header data) s = .next ((s.arrived q.source tag).queueCharged q.source (s.recordOf q k tag slot charge)) := by
    rw [hplace (.inr hst), placeArrival_of_covered (by rw [hsrc, hcontract]; exact hst)
      (by rw [hsrc, hcontract, hlist]; exact ⟨hnil, hle⟩), hsrc]
  refine ⟨fun hst => ?_, fun hst hnil hle => ⟨fun hne => ?_, fun hzero => ?_⟩⟩
  · rw [hplace (.inl hst), placeArrival_of_unpaced (by rw [hsrc, hcontract]; exact hst), hsrc, henqueue]
    rfl
  · rw [hcovered hst hnil hle, queueCharged_of_charge hne, hcontract, hqueue]
    rfl
  · rw [hcovered hst hnil hle, queueCharged_of_free hzero, hcontract, hqueue]
    rfl

/-- Settles O14: a request that is not queued at once is held or refused by the length of the list alone. -/
theorem takeHoldsOrRefusesHoldFull : Obligations.TakeHoldsOrRefusesHoldFull := by
  intro header data s k tag slot charge q old list held marked hacc hd hst hwait hfree hlow
  have hplace := exec_take_placed rfl hacc hd hfree hlow (.inr hst)
  have hcontract : (s.arrived q.source tag).contract q.source = old := arrived_contract s _ _ _
  have hlist : (s.arrived q.source tag).hold q.source = list := arrived_hold s _ _ _
  have hsrc : (s.recordOf q k tag slot charge).source = q.source := rfl
  have hpaced : ((s.arrived q.source tag).contract (s.recordOf q k tag slot charge).source).state = .paced := by
    rw [hsrc, hcontract]
    exact hst
  have hnot : ¬ ((s.arrived q.source tag).hold (s.recordOf q k tag slot charge).source = [] ∧
      (s.recordOf q k tag slot charge).charge ≤ ((s.arrived q.source tag).contract (s.recordOf q k tag slot charge).source).balance) := by
    rw [hsrc, hcontract, hlist]
    rintro ⟨hnil, hle⟩
    exact hwait.elim (· hnil) (not_lt.2 hle)
  refine ⟨fun hlt => ?_, fun hle => ?_⟩
  · rw [hplace, placeArrival_of_waiting hpaced hnot (by rw [hsrc, hcontract, hlist]; exact hlt), hsrc, State.holdRequest, hlist]
    rfl
  · rw [hplace, placeArrival_of_holdFull hpaced hnot (by rw [hsrc, hcontract, hlist]; exact hle), ← refuse_arrived]
    rfl

/-! ### Head expiries (R73 to R76) -/

section expireHead

variable {s : State} {src : Fin 32} (r : StoredReq) (rest : List StoredReq)

/-- An expired head is refused (R74). -/
theorem expireHead_of_refuse (h : (s.contract src).settings.waitAction = .refuse) :
    s.expireHead src r rest =
      ((s.setHold src rest).raise (.waitExpired src r.tag .refuse)).refuse r.source r.tag .waitExpired := by
  simp only [State.expireHead, h]

/-- An expired head is forced into its class queue, uncharged (R75). -/
theorem expireHead_of_force (h : (s.contract src).settings.waitAction = .force) :
    s.expireHead src r rest =
      (((s.setHold src rest).raise (.waitExpired src r.tag .force)).setQueue (s.contract src).settings.cls
        (s.queue (s.contract src).settings.cls ++ [r])).countSource src .forcedBeats r.charge := by
  simp only [State.expireHead, h, State.enqueue, State.raise_frame, State.setHold_contract, State.setHold_queue]

end expireHead

/-- The head check of a head that is due: it expires, and the drain and the head check go on (R76). -/
theorem headCheck_of_due {s : State} {src : Fin 32} {r : StoredReq} {rest : List StoredReq} (h : s.hold src = r :: rest)
    (hdue : s.reachedLimit src r = true) : s.headCheck src = (s.expireHead src r rest).drainAndCheck src := by
  have hshort : (((s.expireHead src r rest).drain src).hold src).length ≤ rest.length := by
    refine (State.drain_hold_length _ _).trans ?_
    rw [State.expireHead_hold, if_pos rfl]
  simp only [State.headCheck, h, List.length_cons, State.cascadeFuel, if_pos hdue]
  exact cascadeFuel_enough src _ _ _ hshort le_rfl

theorem exec_headExpiry_of_due {s : State} {src : Fin 32} (hr : s.resetN = .high) (h : s.headDue src = true) :
    exec (.headExpiry src) s = .next (s.headCheck src) :=
  if_pos ⟨hr, h⟩

theorem exec_headExpiry_of_not_due {s : State} {src : Fin 32} (h : ¬ s.headDue src = true) : exec (.headExpiry src) s = .next s :=
  if_neg fun hdue => h hdue.2

/-- Settles O25: a head that is due expires by the wait action of its source, and each of the four exceptions leaves none due. -/
theorem headExpiryRefusesOrForces : Obligations.HeadExpiryRefusesOrForces := by
  intro src s hr
  refine ⟨?_, fun hnone => exec_headExpiry_of_not_due fun hdue => ?_⟩
  · intro r rest x left hlist hp hlimit hage
    rw [exec_headExpiry_of_due hr ((headDue_iff s src).2 ⟨r, rest, hlist, hp, hlimit, hage⟩),
      headCheck_of_due hlist ((reachedLimit_iff s src r).2 ⟨hp, hlimit, hage⟩)]
    cases hx : x.waitAction with
    | refuse => rw [expireHead_of_refuse r rest hx]
    | force => rw [expireHead_of_force r rest hx]
  · obtain ⟨r, rest, hlist, hp, hlimit, hage⟩ := (headDue_iff s src).1 hdue
    rcases hnone with hnil | hnp | hzero | ⟨r', rest', hlist', hyoung⟩
    · rw [hnil] at hlist
      cases hlist
    · exact hnp hp
    · exact hlimit hzero
    · rw [hlist'] at hlist
      cases hlist
      exact not_lt.2 hage hyoung

/-! ### The drain (R69, R70) -/

/-- One round: what a covered head does, and where the drain ends. -/
theorem drain_round (s : State) (src : Fin 32) (r : StoredReq) (rest : List StoredReq) (hlist : s.hold src = r :: rest) :
    let k := s.contract src
    let paid := ((s.setHold src rest).setContract src { k with balance := k.balance - r.charge }).setQueue k.settings.cls
      (s.queue k.settings.cls ++ [r])
    (k.balance < r.charge → s.drain src = s) ∧
    (r.charge ≤ k.balance → r.charge ≠ 0 → s.drain src = (paid.countSource src .chargedBeats r.charge).drain src) ∧
    (r.charge = 0 → s.drain src = (paid.countSource src .freeBeats r.beats).drain src) := by
  intro k paid
  have hpaid := queueCharged_eq (s.setHold src rest) src r
  refine ⟨fun hlt => ?_, fun hle hne => ?_, fun hzero => ?_⟩
  · rw [drain_cons hlist, if_neg (not_le.2 hlt)]
  · rw [if_neg hne, if_neg hne] at hpaid
    rw [drain_cons hlist, if_pos hle, hpaid]
    rfl
  · rw [if_pos hzero, if_pos hzero] at hpaid
    rw [drain_cons hlist, if_pos (by omega), hpaid]
    rfl

/-- The whole drain: how many of the oldest requests move decides everything it writes. -/
theorem drain_whole (s : State) (src : Fin 32) : ∃ k ≤ (s.hold src).length,
    let moved := (s.hold src).take k
    let paid := (moved.map StoredReq.charge).sum
    let c := (s.contract src).settings.cls
    let t := s.drain src
    paid ≤ (s.contract src).balance ∧
    (∀ r ∈ ((s.hold src).drop k).head?, (s.contract src).balance - paid < r.charge) ∧
    (t.contract src = { s.contract src with balance := (s.contract src).balance - paid } ∧
      ∀ i, i ≠ src → t.contract i = s.contract i) ∧
    (t.hold src = (s.hold src).drop k ∧ ∀ i, i ≠ src → t.hold i = s.hold i) ∧
    (t.queue c = s.queue c ++ moved ∧ ∀ i, i ≠ c → t.queue i = s.queue i) ∧
    (t.srcCount src = { s.srcCount src with
        chargedBeats := (s.srcCount src).chargedBeats + BitVec.ofNat 32 paid
        freeBeats := (s.srcCount src).freeBeats
          + BitVec.ofNat 32 ((moved.filter fun r => r.charge = 0).map StoredReq.beats).sum } ∧
      ∀ i, i ≠ src → t.srcCount i = s.srcCount i) ∧
    t = { s with contracts := t.contracts, holds := t.holds, queues := t.queues, srcCounts := t.srcCounts, evq := t.evq } := by
  obtain ⟨k, hk, hhold, hcontract, hqueue, hpaid, hhead⟩ := State.drain_spec s src
  have hleft : (s.drain src).hold src = (s.hold src).drop k := by rw [hhold, if_pos rfl]
  have hmoved : (s.hold src).length - ((s.drain src).hold src).length = k := by
    rw [hleft, List.length_drop]
    omega
  have hcount := drain_srcCount src _ s rfl
  rw [hmoved] at hcount
  refine ⟨k, hk, hpaid, hhead, ⟨?_, fun i hi => ?_⟩, ⟨hleft, fun i hi => ?_⟩, ⟨?_, fun i hi => ?_⟩, hcount, drainFuel_eq src _ s⟩
  · rw [hcontract, if_pos rfl]
  · rw [hcontract, if_neg hi]
  · rw [hhold, if_neg hi]
  · rw [hqueue, if_pos rfl]
  · rw [hqueue, if_neg hi]

/-- Settles O26: the rounds of the drain, what they come to, and the head check by the head that the drain leaves. -/
theorem drainMovesCoveredHeadsAndChecksTheNext : Obligations.DrainMovesCoveredHeadsAndChecksTheNext := by
  refine ⟨fun s src => ⟨drain_nil, drain_round s src⟩, drain_whole, ?_⟩
  intro s src d x expired
  refine ⟨fun hnone => ?_, fun r rest hlist hexp => ?_, ?_⟩
  · refine drainAndCheck_of_not_due ?_
    rw [← Bool.not_eq_true, headDue_iff]
    rintro ⟨r, rest, hlist, hdue⟩
    exact hnone r (by simp [d, hlist]) hdue
  · intro left
    rw [drainAndCheck_of_due hlist ((reachedLimit_iff d src r).2 hexp)]
    cases hx : x.waitAction with
    | refuse => rw [expireHead_of_refuse r rest hx]
    | force => rw [expireHead_of_force r rest hx]
  · exact not_due_of_headDue_false (State.headCheck_not_due d src)

end Sys2Proof.Machine
end

section
/-! The reads of the management port that answer with a record: their common checks once, and the bytes of each record field by field. -/

namespace Sys2Proof.Machine

/-! ### The checks of a table read (R173) -/

/-- What a read of a table of `n` records answers: index, then length, then the bytes of the record named. -/
def readAnswer (n : Nat) (bytes : Fin n → List Byte) (f : Frame) (s : State) : Answer :=
  match indexBelow n f.index.toNat with
  | none => refused .badIndex s
  | some i => if f.badLength 0 then refused .badLength s else ⟨.ok, bytes i, s⟩

/-- A command that answers so, taken by a port that listens. -/
theorem tableRead_checked {n : Nat} {bytes : Fin n → List Byte} {f : Frame} {s : State} {c : Instr} {opcode : Byte}
    {a : Answer} (hexec : exec c s = s.manage opcode (judged f s a)) (ha : a = readAnswer n bytes f s)
    (h : s.listening) (hlen : f.len.toNat ≤ 48) :
    (n ≤ f.index.toNat → exec c s = .next (s.answered opcode .badIndex [])) ∧
    ∀ i : Fin n, f.index.toNat = i.val →
      (f.len.toNat ≠ 0 → exec c s = .next (s.answered opcode .badLength [])) ∧
      (f.len.toNat = 0 → exec c s = .next (s.answered opcode .ok (bytes i))) := by
  rw [hexec, ha, judged_of_len_le s _ hlen, manage_listening h]
  refine ⟨fun hi => ?_, fun i hi => ⟨fun hl => ?_, fun hl => ?_⟩⟩
  · simp only [readAnswer, indexBelow_eq_none hi, refused]
  · simp only [readAnswer, indexBelow_eq_some i hi, badLength_of_ne hl, if_true, refused]
  · simp only [readAnswer, indexBelow_eq_some i hi, badLength_of_eq hl, Bool.false_eq_true, if_false]

section

variable (f : Frame) (s : State)

theorem answerContractRead_eq : answerContractRead f s = readAnswer 32 (fun i => (s.contract i).bytes) f s := by
  unfold answerContractRead readAnswer
  cases indexBelow 32 f.index.toNat <;> rfl

theorem answerRegionRead_eq : answerRegionRead f s = readAnswer 16 (fun i => (s.region i).bytes) f s := by
  unfold answerRegionRead readAnswer
  cases indexBelow 16 f.index.toNat <;> rfl

theorem answerClassRead_eq : answerClassRead f s = readAnswer 4 (fun c => (s.cls c).bytes (s.queue c).length) f s := by
  unfold answerClassRead readAnswer
  cases indexBelow 4 f.index.toNat <;> rfl

theorem answerLineRead_eq : answerLineRead f s = readAnswer 4 (fun n => (s.line n).bytes) f s := by
  unfold answerLineRead readAnswer
  cases indexBelow 4 f.index.toNat <;> rfl

end

section

variable {f : Frame} {s : State} (h : s.listening) (hlen : f.len.toNat ≤ 48)
include h hlen

/-- HOLD_READ of a source out of range (R86). -/
theorem exec_holdRead_badIndex (hi : 32 ≤ f.index.toNat) : exec (.holdRead f) s = .next (s.answered 0x13#8 .badIndex []) := by
  rw [exec, execHoldRead, judged_of_len_le s _ hlen, manage_listening h]
  simp only [answerHoldRead, indexBelow_eq_none hi, refused]

/-- HOLD_READ of a source in range: length, then position, then the record (R86). -/
theorem exec_holdRead_of_source {src : Fin 32} (hi : f.index.toNat = src.val) :
    (f.len.toNat ≠ 1 → exec (.holdRead f) s = .next (s.answered 0x13#8 .badLength [])) ∧
    (f.len.toNat = 1 → (s.hold src).length ≤ f.u8 0 → exec (.holdRead f) s = .next (s.answered 0x13#8 .badIndex [])) ∧
    ∀ r, f.len.toNat = 1 → (s.hold src)[f.u8 0]? = some r →
      exec (.holdRead f) s = .next (s.answered 0x13#8 .ok
        ([byteOf r.tag.val, byteOf r.charge] ++ bytes4 (s.timeBase - r.arrival).toNat)) := by
  rw [exec, execHoldRead, judged_of_len_le s _ hlen, manage_listening h]
  refine ⟨fun hl => ?_, fun hl hpos => ?_, fun r hl hr => ?_⟩
  · simp only [answerHoldRead, indexBelow_eq_some src hi, badLength_of_ne hl, if_true, refused]
  · simp only [answerHoldRead, indexBelow_eq_some src hi, badLength_of_eq hl, Bool.false_eq_true, if_false,
      List.getElem?_eq_none hpos, refused]
  · simp only [answerHoldRead, indexBelow_eq_some src hi, badLength_of_eq hl, Bool.false_eq_true, if_false, hr, State.elapsed]

/-- GLOBAL_READ checks its length alone (R177). -/
theorem exec_globalRead_checked :
    (f.len.toNat ≠ 0 → exec (.globalRead f) s = .next (s.answered 0x38#8 .badLength [])) ∧
    (f.len.toNat = 0 → exec (.globalRead f) s = .next (s.answered 0x38#8 .ok s.globals.bytes)) := by
  rw [exec, execGlobalRead, judged_of_len_le s _ hlen, manage_listening h]
  refine ⟨fun hl => ?_, fun hl => ?_⟩
  · simp only [answerGlobalRead, badLength_of_ne hl, if_true, refused]
  · simp only [answerGlobalRead, badLength_of_eq hl, Bool.false_eq_true, if_false]

end

/-! ### The bytes of a field (R184) -/

theorem boolByte_isSome {α : Type} (o : Option α) [Decidable (o = none)] : boolByte o.isSome = if o = none then 0#8 else 1#8 := by
  cases o <;> simp [boolByte]

theorem waitAction_code_eq (a : WaitAction) : a.code = if a = .force then 1 else 0 := by cases a <;> rfl

theorem policy_byte (p : Policy) : byteOf p.code = if p = .strict then 1#8 else 0#8 := by cases p <;> rfl

theorem level_byte (l : Level) : byteOf (levelCode l) = if l = .high then 1#8 else 0#8 := by cases l <;> rfl

/-- The seven edges one after the other. -/
theorem edges_toList (e : Vector Nat 7) : e.toList = [e[0], e[1], e[2], e[3], e[4], e[5], e[6]] := by
  refine List.ext_getElem (by simp) fun i hi _ => ?_
  rw [Vector.length_toList] at hi
  interval_cases i <;> rfl

/-- Settles O32: each read has the checks of its kind, and each field of a record is coded as its layout says. -/
theorem tableReadsAnswerTheRecord : Obligations.TableReadsAnswerTheRecord := by
  intro f s h hlen contractBytes actionCode weightCode regionBytes classBytes lineBytes globalBytes
  have hcontract (c : Contract) : c.bytes = contractBytes c := by
    simp only [Contract.bytes, Settings.bytes, boolByte_isSome, waitAction_code_eq]
    rfl
  have hregion (r : Region) : r.bytes = regionBytes r := rfl
  have hclass (c : ClassRec) (n : Nat) : c.bytes n = classBytes c n := by
    simp only [ClassRec.bytes, classBytes, boolByte_isSome, edges_toList, List.flatMap_cons, List.flatMap_nil]
    cases c.stagedCredit <;> rfl
  have hline (l : Line) : l.bytes = lineBytes l := by
    simp only [Line.bytes, boolByte_isSome, level_byte]
    rfl
  have hglobal : s.globals.bytes = globalBytes := by
    simp only [GlobalSettings.bytes, policy_byte]
    rfl
  obtain ⟨hcontractIndex, hcontractRead⟩ := tableRead_checked (c := .contractRead f) rfl (answerContractRead_eq f s) h hlen
  obtain ⟨hregionIndex, hregionRead⟩ := tableRead_checked (c := .regionRead f) rfl (answerRegionRead_eq f s) h hlen
  obtain ⟨hclassIndex, hclassRead⟩ := tableRead_checked (c := .classRead f) rfl (answerClassRead_eq f s) h hlen
  obtain ⟨hlineIndex, hlineRead⟩ := tableRead_checked (c := .lineRead f) rfl (answerLineRead_eq f s) h hlen
  obtain ⟨hglobalLength, hglobalRead⟩ := exec_globalRead_checked h hlen
  simp only [hcontract] at hcontractRead
  simp only [hregion] at hregionRead
  simp only [hclass] at hclassRead
  simp only [hline] at hlineRead
  rw [hglobal] at hglobalRead
  refine ⟨fun hi => ⟨hcontractIndex hi, exec_holdRead_badIndex h hlen hi⟩, hregionIndex,
    fun hi => ⟨hclassIndex hi, hlineIndex hi⟩, fun src hi => ?_, hregionRead, fun c hi => ?_, hglobalLength, hglobalRead⟩
  · obtain ⟨hlength, hread⟩ := hcontractRead src hi
    exact ⟨hlength, hread, exec_holdRead_of_source h hlen hi⟩
  · obtain ⟨hclassLength, hclassRead⟩ := hclassRead c hi
    obtain ⟨hlineLength, hlineRead⟩ := hlineRead c hi
    exact ⟨fun hl => ⟨hclassLength hl, hlineLength hl⟩, fun hl => ⟨hclassRead hl, hlineRead hl⟩⟩

end Sys2Proof.Machine
end

section
/-! Period timers: a boundary and a window end as one write of the source's contract each, and the statements about single commands of
chapter 5's timers. -/

namespace Sys2Proof.Machine

/-! ### Boundaries (R92 to R95) -/

/-- A contract at its boundary, the staged copy applied: refilled to the ceiling, with the next period begun at the due time just reached, or
the edge count at 0 where no timer runs (R92 to R95). -/
def Contract.refilled (c : Contract) : Contract :=
  match c.timer with
  | .running m start length =>
    { c with
      balance := min (c.balance + c.settings.budget) c.settings.ceiling
      timer := .running m (start + BitVec.ofNat 32 length) c.settings.periodTicks }
  | .stopped => { c with balance := min (c.balance + c.settings.budget) c.settings.ceiling, edgeCount := 0 }

theorem Contract.refilled_of_running {c : Contract} {m : Measure} {start : Time} {length : Nat}
    (h : c.timer = .running m start length) : c.refilled = { c with
      balance := min (c.balance + c.settings.budget) c.settings.ceiling
      timer := .running m (start + BitVec.ofNat 32 length) c.settings.periodTicks } := by
  simp only [refilled, h]

theorem Contract.refilled_of_stopped {c : Contract} (h : c.timer = .stopped) :
    c.refilled = { c with balance := min (c.balance + c.settings.budget) c.settings.ceiling, edgeCount := 0 } := by
  simp only [refilled, h]

/-- Refill and next period are one write of the source's contract. -/
theorem refill_nextPeriod (s : State) (src : Fin 32) :
    (s.refill src).nextPeriod src = s.setContract src (s.contract src).refilled := by
  have hrefill : (s.refill src).contract src = { s.contract src with
      balance := min ((s.contract src).balance + (s.contract src).settings.budget) (s.contract src).settings.ceiling } := by
    rw [State.refill_contract, if_pos rfl]
  cases ht : (s.contract src).timer with
  | running m start length =>
    rw [Contract.refilled_of_running ht]
    simp only [State.nextPeriod, hrefill, ht]
    exact setContract_setContract s src _ _
  | stopped =>
    rw [Contract.refilled_of_stopped ht]
    simp only [State.nextPeriod, State.setEdgeCount, hrefill, ht]
    exact setContract_setContract s src _ _

/-- A boundary as R93 orders it: staged copy, refill and next period, drain and head check. -/
theorem takeBoundary_eq (s : State) (src : Fin 32) :
    s.takeBoundary src =
      ((s.applyStaged src).setContract src ((s.applyStaged src).contract src).refilled).drainAndCheck src := by
  rw [State.takeBoundary, refill_nextPeriod]

theorem exec_boundary_of_due {s : State} {src : Fin 32} (hr : s.resetN = .high) (h : s.boundaryDue src = true) :
    exec (.boundary src) s = .next (s.takeBoundary src) :=
  if_pos ⟨hr, h⟩

theorem exec_boundary_of_not_due {s : State} {src : Fin 32} (h : ¬ s.boundaryDue src = true) : exec (.boundary src) s = .next s :=
  if_neg fun hdue => h hdue.2

/-- Settles O23: a period that is due takes its boundary, and one that is short of its length is not due. -/
theorem boundaryRefillsAndDrains : Obligations.BoundaryRefillsAndDrains := by
  intro src s hr
  refine ⟨fun start length ht hdue => ?_, fun hshort => exec_boundary_of_not_due fun hdue => ?_⟩
  · rw [exec_boundary_of_due hr ((boundaryDue_iff s src).2 ⟨start, length, ht, hdue⟩), takeBoundary_eq,
      Contract.refilled_of_running ((applyStaged_timer s src).trans ht)]
    rfl
  · obtain ⟨start, length, ht, hreached⟩ := (boundaryDue_iff s src).1 hdue
    exact not_lt.2 hreached (hshort start length ht)

/-! ### Window ends (R96) -/

/-- A window end writes the contract once: the refusals between its steps do not read it. -/
theorem takeWindowEnd_eq (s : State) (src : Fin 32) :
    let a := (s.stopTimer src).applyStaged src
    s.takeWindowEnd src =
      (((a.setHold src []).refuseList .spent (s.hold src)).setContract src
        { a.contract src with balance := 0, state := .spent }).raise (.windowClosed src (s.hold src).length) := by
  intro a
  have hhold : (a.setBalance src 0).hold src = s.hold src := by simp [a]
  have hswap : (a.setBalance src 0).setHold src [] =
      (a.setHold src []).setContract src { a.contract src with balance := 0 } := rfl
  simp only [State.takeWindowEnd, State.setState]
  rw [hhold, hswap, ← refuseList_setContract, State.setContract_contract_self, setContract_setContract]

theorem exec_windowEnd_of_due {s : State} {src : Fin 32} (hr : s.resetN = .high) (h : s.windowDue src = true) :
    exec (.windowEnd src) s = .next (s.takeWindowEnd src) :=
  if_pos ⟨hr, h⟩

theorem exec_windowEnd_of_not_due {s : State} {src : Fin 32} (h : ¬ s.windowDue src = true) : exec (.windowEnd src) s = .next s :=
  if_neg fun hdue => h hdue.2

/-- Settles O24: a window that is due ends, and one that is short of its length is not due. -/
theorem windowEndSpends : Obligations.WindowEndSpends := by
  intro src s hr
  refine ⟨fun start length ht hdue => ?_, fun hshort => exec_windowEnd_of_not_due fun hdue => ?_⟩
  · rw [exec_windowEnd_of_due hr ((windowDue_iff s src).2 ⟨start, length, ht, hdue⟩), takeWindowEnd_eq]
    rfl
  · obtain ⟨start, length, ht, hreached⟩ := (windowDue_iff s src).1 hdue
    exact not_lt.2 hreached (hshort start length ht)

end Sys2Proof.Machine
end

section
/-! Trigger lines: settling, pin changes and LINE_WRITE, and what a qualifying edge does source by source; the statements about single
commands of chapter 5's trigger lines. -/

namespace Sys2Proof.Machine

/-! ### Settling (R101, R102) -/

/-- A settling writes the line, and then acts as its edge setting says. -/
theorem settle_eq (s : State) (n : Fin 4) (level : Level) :
    s.settle n level =
      if (s.line n).edge = .both ∨ ((s.line n).edge = .rising ∧ level = .high) ∨ ((s.line n).edge = .falling ∧ level = .low)
      then (s.setLine n { s.line n with settled := level, transition := none }).qualifyingEdge n
      else s.setLine n { s.line n with settled := level, transition := none } :=
  if_congr (qualifies_iff _ _) rfl rfl

/-- A settling reads nothing of the line but what has just been written to it. -/
theorem settle_setLine (s : State) (n : Fin 4) (l : Line) (level : Level) :
    (s.setLine n l).settle n level =
      if l.edge = .both ∨ (l.edge = .rising ∧ level = .high) ∨ (l.edge = .falling ∧ level = .low)
      then (s.setLine n { l with settled := level, transition := none }).qualifyingEdge n
      else s.setLine n { l with settled := level, transition := none } := by
  rw [settle_eq, State.setLine_line_self, setLine_setLine]

/-! ### Pin changes and due transitions (R101) -/

section pinChange

variable {s : State} {n : Fin 4} {level : Level}

theorem pinChange_of_settled (h : (s.line n).settled = level) :
    s.pinChange n level = s.setLine n { s.line n with pin := level, transition := none } :=
  if_pos h.symm

theorem pinChange_of_filtered (h : (s.line n).settled ≠ level) (hf : (s.line n).filter ≠ 0) :
    s.pinChange n level = s.setLine n { s.line n with pin := level, transition := some (level, s.timeBase) } :=
  (if_neg (Ne.symm h)).trans (if_neg hf)

theorem pinChange_of_unfiltered (h : (s.line n).settled ≠ level) (hf : (s.line n).filter = 0) :
    s.pinChange n level = (s.setLine n { s.line n with pin := level }).settle n level :=
  (if_neg (Ne.symm h)).trans (if_pos hf)

theorem exec_triggerPinChange_of_same (hr : s.resetN = .high) (h : (s.line n).pin = level) :
    exec (.triggerPinChange n level) s = .next s :=
  (if_neg (by simp [hr])).trans (if_pos h)

theorem exec_triggerPinChange_of_change (hr : s.resetN = .high) (h : (s.line n).pin ≠ level) :
    exec (.triggerPinChange n level) s = .next (s.pinChange n level) :=
  (if_neg (by simp [hr])).trans (if_neg h)

theorem exec_transitionSettles_of_due {seen : Time} (hr : s.resetN = .high) (h : (s.line n).transition = some (level, seen))
    (hdue : 4 * (s.line n).filter ≤ (s.timeBase - seen).toNat) :
    exec (.transitionSettles n) s = .next (s.settle n level) := by
  rw [exec, execTransitionSettles, if_pos ⟨hr, (transitionDue_iff s n).2 ⟨level, seen, h, hdue⟩⟩, h]

theorem exec_transitionSettles_of_not_due (h : ¬ s.transitionDue n = true) : exec (.transitionSettles n) s = .next s :=
  if_neg fun hdue => h hdue.2

end pinChange

/-- Settles O27: a pin change by the level it comes to and the filter, a pending transition by its due time; each settling by the edge
setting. -/
theorem pinChangeSettlesAfterTheFilter : Obligations.PinChangeSettlesAfterTheFilter := by
  intro n s hr l qualifies
  refine ⟨fun level => ⟨fun hpin => ?_, fun hpin hback => ?_, fun hpin haway hf => ?_, fun hpin haway hf => ?_⟩,
    fun level seen hpending hdue => ?_, fun hshort => exec_transitionSettles_of_not_due fun hdue => ?_⟩
  · exact exec_triggerPinChange_of_same hr hpin
  · rw [exec_triggerPinChange_of_change hr hpin, pinChange_of_settled hback]
  · rw [exec_triggerPinChange_of_change hr hpin, pinChange_of_filtered haway hf]
  · rw [exec_triggerPinChange_of_change hr hpin, pinChange_of_unfiltered haway hf, settle_setLine]
    exact ⟨fun hq => congrArg _ (if_pos hq), fun hq => congrArg _ (if_neg hq)⟩
  · rw [exec_transitionSettles_of_due hr hpending hdue, settle_eq]
    exact ⟨fun hq => congrArg _ (if_pos hq), fun hq => congrArg _ (if_neg hq)⟩
  · obtain ⟨level, seen, hpending, hreached⟩ := (transitionDue_iff s n).1 hdue
    exact not_lt.2 hreached (hshort level seen hpending)

/-! ### LINE_WRITE (R105) -/

theorem edgeSetting_ofCode_code (e : EdgeSetting) : EdgeSetting.ofCode e.code = some e := by cases e <;> rfl

theorem edgeSetting_ofCode_none {n : Nat} (h : 2 < n) : EdgeSetting.ofCode n = none := by
  unfold EdgeSetting.ofCode
  split
  case h_4 => rfl
  all_goals omega

theorem lineOfFrame_of_legal {f : Frame} {edge : EdgeSetting} (he : f.u8 0 = edge.code) (hf : f.u8 1 ≤ 15) :
    lineOfFrame f = some (edge, f.u8 1) := by
  simp only [lineOfFrame, he, edgeSetting_ofCode_code, if_pos hf]

/-- Either setting out of its range is a bad value (R105 step 3). -/
theorem lineOfFrame_of_outOfRange {f : Frame} (h : 2 < f.u8 0 ∨ 15 < f.u8 1) : lineOfFrame f = none := by
  unfold lineOfFrame
  cases he : EdgeSetting.ofCode (f.u8 0) with
  | none => rfl
  | some edge =>
    rcases h with hedge | hfilter
    · rw [edgeSetting_ofCode_none hedge] at he
      cases he
    · exact if_neg (not_le.2 hfilter)

section writeLine

variable {s : State} {n : Fin 4} {edge : EdgeSetting} {filter : Nat}

theorem writeLine_of_none (h : (s.line n).transition = none) :
    s.writeLine n edge filter = s.setLine n { s.line n with edge := edge, filter := filter } := by
  simp only [State.writeLine, h]

/-- A pending transition is seen anew at the write. -/
theorem writeLine_of_filtered {level : Level} {seen : Time} (h : (s.line n).transition = some (level, seen)) (hf : filter ≠ 0) :
    s.writeLine n edge filter =
      s.setLine n { s.line n with edge := edge, filter := filter, transition := some (level, s.timeBase) } := by
  simp only [State.writeLine, h, if_neg hf]

/-- Under filter 0 a pending transition settles within the write, and is judged by the new edge setting. -/
theorem writeLine_of_unfiltered {level : Level} {seen : Time} (h : (s.line n).transition = some (level, seen)) (hf : filter = 0) :
    s.writeLine n edge filter = (s.setLine n { s.line n with edge := edge, filter := filter }).settle n level := by
  simp only [State.writeLine, h, if_pos hf]

end writeLine

section answerLineWrite

variable {f : Frame} (s : State)

theorem exec_lineWrite {s : State} (h : s.listening) (hlen : f.len.toNat ≤ 48) : exec (.lineWrite f) s =
    .next ((answerLineWrite f s).state.answered 0x31#8 (answerLineWrite f s).status (answerLineWrite f s).data) := by
  rw [← manage_listening h, ← judged_of_len_le s (answerLineWrite f s) hlen]
  rfl

theorem answerLineWrite_badIndex (hi : 4 ≤ f.index.toNat) : answerLineWrite f s = refused .badIndex s := by
  simp only [answerLineWrite, indexBelow_eq_none hi]

theorem answerLineWrite_badLength (n : Fin 4) (hi : f.index.toNat = n.val) (hl : f.len.toNat ≠ 2) :
    answerLineWrite f s = refused .badLength s := by
  simp only [answerLineWrite, indexBelow_eq_some n hi, badLength_of_ne hl, if_true]

theorem answerLineWrite_badValue (n : Fin 4) (hi : f.index.toNat = n.val) (hl : f.len.toNat = 2)
    (hbad : 2 < f.u8 0 ∨ 15 < f.u8 1) : answerLineWrite f s = refused .badValue s := by
  simp only [answerLineWrite, indexBelow_eq_some n hi, badLength_of_eq hl, Bool.false_eq_true, if_false,
    lineOfFrame_of_outOfRange hbad]

theorem answerLineWrite_ok {edge : EdgeSetting} (n : Fin 4) (hi : f.index.toNat = n.val) (hl : f.len.toNat = 2)
    (he : f.u8 0 = edge.code) (hf : f.u8 1 ≤ 15) : answerLineWrite f s = ⟨.ok, [], s.writeLine n edge (f.u8 1)⟩ := by
  simp only [answerLineWrite, indexBelow_eq_some n hi, badLength_of_eq hl, Bool.false_eq_true, if_false,
    lineOfFrame_of_legal he hf]

end answerLineWrite

/-- Settles O43: the three checks in their order, and a write that passes by whether a transition is pending and by the new filter. -/
theorem lineWriteReplacesSettings : Obligations.LineWriteReplacesSettings := by
  intro f s hs hlen
  rw [exec_lineWrite hs hlen]
  refine ⟨fun hi => ?_, fun hi hl => ?_, fun hi hl hbad => ?_, fun n edge hi hl he hf => ?_⟩
  · rw [answerLineWrite_badIndex s hi]
    rfl
  · rw [answerLineWrite_badLength s ⟨_, hi⟩ rfl hl]
    rfl
  · rw [answerLineWrite_badValue s ⟨_, hi⟩ rfl hl hbad]
    rfl
  · rw [answerLineWrite_ok s n hi hl he hf]
    refine ⟨fun hnone => ?_, fun level seen hpending => ⟨fun hfilter => ?_, fun hfilter => ?_⟩⟩
    · rw [writeLine_of_none hnone]
    · rw [writeLine_of_filtered hpending hfilter]
    · rw [writeLine_of_unfiltered hpending hfilter, settle_setLine]

/-! ### Qualifying edges (R95, R103) -/

/-- A contract that counts the qualifying edges of line `n` (R103). -/
def Contract.BoundTo (c : Contract) (n : Fin 4) : Prop :=
  c.state = .paced ∧ c.settings.mode = .triggered ∧ c.settings.triggerLine = n

section countEdge

variable {s : State} {n : Fin 4} {src : Fin 32}

/-- A source that is not bound to the line is passed by. -/
theorem countEdge_of_not_bound (h : ¬ (s.contract src).BoundTo n) : s.countEdge n src = s :=
  if_neg h

/-- An edge short of edges per refill is counted and does no more. -/
theorem countEdge_of_short (h : (s.contract src).BoundTo n)
    (hshort : (s.contract src).edgeCount + 1 ≠ (s.contract src).settings.edgesPerRefill) :
    s.countEdge n src = s.setEdgeCount src ((s.contract src).edgeCount + 1) :=
  (if_pos h).trans (if_neg hshort)

/-- The edge that reaches edges per refill takes a boundary. -/
theorem countEdge_of_refill (h : (s.contract src).BoundTo n)
    (hfull : (s.contract src).edgeCount + 1 = (s.contract src).settings.edgesPerRefill) :
    s.countEdge n src = (s.setEdgeCount src ((s.contract src).edgeCount + 1)).takeBoundary src :=
  (if_pos h).trans (if_pos hfull)

end countEdge

/-- What an edge does at one source, as R103 gives it: a bound source counts it, and takes the boundary of R93 where the count is full. -/
def State.edgeAt (n : Fin 4) (u : State) (src : Fin 32) : State :=
  let c := u.contract src
  let counted := u.setContract src { c with edgeCount := c.edgeCount + 1 }
  let a := counted.applyStaged src
  let k := a.contract src
  if c.state = .paced ∧ c.settings.mode = .triggered ∧ c.settings.triggerLine = n then
    if c.edgeCount + 1 = c.settings.edgesPerRefill then
      (a.setContract src { k with
        balance := min (k.balance + k.settings.budget) (k.settings.budget + k.settings.carry)
        edgeCount := 0 }).drainAndCheck src
    else counted
  else u

theorem setEdgeCount_timer (s : State) (src : Fin 32) (k : Nat) :
    ((s.setEdgeCount src k).contract src).timer = (s.contract src).timer := by
  rw [State.setEdgeCount_contract, if_pos rfl]

theorem countEdge_eq_edgeAt {s : State} {n : Fin 4} {src : Fin 32}
    (h : (s.contract src).BoundTo n → (s.contract src).timer = .stopped) : s.countEdge n src = s.edgeAt n src := by
  refine ite_congr rfl (fun hbound => ite_congr rfl (fun _ => ?_) fun _ => rfl) fun _ => rfl
  have htimer := (applyStaged_timer (s.setEdgeCount src ((s.contract src).edgeCount + 1)) src).trans
    ((setEdgeCount_timer s src _).trans (h hbound))
  rw [takeBoundary_eq, Contract.refilled_of_stopped htimer]
  rfl

/-- The sources in order: an edge at one source leaves the contract of every later one as it was. -/
theorem countEdges_eq_foldl (n : Fin 4) (l : List (Fin 32)) (hl : l.Nodup) (s : State)
    (h : ∀ src ∈ l, (s.contract src).BoundTo n → (s.contract src).timer = .stopped) :
    s.countEdges n l = l.foldl (State.edgeAt n) s := by
  induction l generalizing s with
  | nil => rfl
  | cons src rest ih =>
    obtain ⟨hnew, hrest⟩ := List.nodup_cons.1 hl
    rw [List.foldl_cons, ← countEdge_eq_edgeAt (h src (by simp))]
    refine ih hrest _ fun i hi => ?_
    have hne : i ≠ src := fun heq => hnew (heq ▸ hi)
    rw [(countEdge_other n src i hne s).1]
    exact h i (by simp [hi])

/-- A boundary read off its source's contract: what follows the refill writes the balance alone, and nothing where no request is held. -/
theorem takeBoundary_contract (s : State) (src : Fin 32) :
    ∃ b, (s.takeBoundary src).contract src = { (s.contract src).applied.refilled with balance := b } ∧
      (s.hold src = [] → b = (s.contract src).applied.refilled.balance) := by
  rw [takeBoundary_eq]
  generalize hready : (s.applyStaged src).setContract src _ = ready
  have hcontract : ready.contract src = (s.contract src).applied.refilled := by
    rw [← hready, State.setContract_contract_self, applyStaged_contract_applied, if_pos rfl]
  have hhold : ready.hold src = s.hold src := by simp [← hready]
  obtain ⟨b, hb⟩ := drainAndCheck_self src ready
  refine ⟨b, by rw [hb, hcontract], fun hnil => ?_⟩
  rw [drainAndCheck_nil src ready (hhold.trans hnil), hcontract] at hb
  exact (congrArg Contract.balance hb).symm

/-- Applying a staged copy does not read the edge count. -/
theorem Contract.applied_with_edgeCount (c : Contract) (k : Nat) :
    ({ c with edgeCount := k } : Contract).applied = { c.applied with edgeCount := k } := by
  cases h : c.staged with
  | none => simp only [applied, h]
  | some x => simp only [applied, h]

/-- The settings that are live once the staged copy is applied (R37). -/
theorem Contract.applied_settings (c : Contract) : c.applied.settings = c.staged.getD c.settings := by
  cases h : c.staged with
  | none => rw [applied_of_none h, Option.getD_none]
  | some x => rw [applied_of_some h, Option.getD_some]

/-- The balance that is left once the staged copy is applied (R37). -/
theorem Contract.applied_balance (c : Contract) : c.applied.balance =
    match c.staged with
    | none => c.balance
    | some x => min c.balance (x.budget + x.carry) := by
  cases h : c.staged with
  | none => rw [applied_of_none h]
  | some x => rw [applied_of_some h, Settings.ceiling]

/-- The boundary of a counted edge, read off its source's contract (R93, R95, R103). -/
theorem countEdge_contract_of_refill {s : State} {n : Fin 4} {src : Fin 32} (h : (s.contract src).BoundTo n)
    (hfull : (s.contract src).edgeCount + 1 = (s.contract src).settings.edgesPerRefill) (ht : (s.contract src).timer = .stopped) :
    ∃ b, (s.countEdge n src).contract src = { (s.contract src).applied with balance := b, edgeCount := 0 } ∧
      (s.hold src = [] → b = min ((s.contract src).applied.balance + (s.contract src).applied.settings.budget)
        (s.contract src).applied.settings.ceiling) := by
  obtain ⟨b, hcontract, hbalance⟩ := takeBoundary_contract (s.setEdgeCount src ((s.contract src).edgeCount + 1)) src
  have hstopped : { (s.contract src).applied with edgeCount := (s.contract src).edgeCount + 1 }.timer = .stopped :=
    (Contract.applied_timer _).trans ht
  rw [State.setEdgeCount_contract, if_pos rfl, Contract.applied_with_edgeCount, Contract.refilled_of_stopped hstopped]
    at hcontract hbalance
  rw [countEdge_of_refill h hfull]
  exact ⟨b, hcontract, hbalance⟩

/-- Settles O28: the fold because each source's count is a boundary or a write of its own contract; the clauses for one source because the
others' counts leave it alone. -/
theorem qualifyingEdgeCountsBoundSources : Obligations.QualifyingEdgeCountsBoundSources := by
  intro s n bound
  refine ⟨fun htimer => countEdges_eq_foldl n _ (List.nodup_finRange 32) s fun src _ => htimer src, fun src => ?_⟩
  intro c t live clipped
  obtain ⟨u, hu, hhold, htcontract, hthold⟩ := qualifyingEdge_local n src s
  have hc : u.contract src = c := hu
  refine ⟨fun hfree => ?_, fun hbound hshort => ?_, fun hbound hfull hstopped => ?_⟩
  · rw [countEdge_of_not_bound (hc ▸ hfree)] at htcontract hthold
    exact ⟨htcontract.trans hc, hthold.trans hhold⟩
  · rw [countEdge_of_short (hc ▸ hbound) (hc ▸ hshort)] at htcontract hthold
    rw [State.setEdgeCount_contract, if_pos rfl, hc] at htcontract
    exact ⟨htcontract, hthold.trans hhold⟩
  · obtain ⟨b, hafter, hrefilled⟩ := countEdge_contract_of_refill (n := n) (hc ▸ hbound) (hc ▸ hfull) (hc ▸ hstopped)
    rw [hc] at hafter hrefilled
    rw [show t.contract src = _ from htcontract.trans hafter]
    have hlive : c.applied.settings = live := c.applied_settings
    have hclipped : c.applied.balance = clipped := c.applied_balance
    refine ⟨rfl, c.applied_staged, c.applied_settings, c.applied_state.trans hbound.1, fun hnil => ?_⟩
    calc b = min (c.applied.balance + c.applied.settings.budget) c.applied.settings.ceiling := hrefilled (hhold.trans hnil)
      _ = min (clipped + live.budget) (live.budget + live.carry) := by
        rw [hclipped, hlive, Settings.ceiling]

end Sys2Proof.Machine
end

section
/-! The credits of a class and its entries as one account. R110 says that they add up to the default credit while DN_RDY is high, and that both
are zero while it is low, so the law is one equation for each class, and a grant or a completion moves a credit within its account. -/

namespace Sys2Proof.Machine

/-! ### The account of a class (R110) -/

/-- The credits of a class, and those that its ACTIVE and ORPHANED entries hold. -/
def State.creditAccount (s : State) (c : Fin 4) : Nat := (s.cls c).credits + s.classEntries c

@[simp] theorem holdsCredit_free (c : Fin 4) : Entry.free.holdsCredit c = false := rfl

@[simp] theorem holdsCredit_active (r : Outstanding) (c : Fin 4) : (Entry.active r).holdsCredit c = decide (r.cls = c) := rfl

@[simp] theorem holdsCredit_orphaned (r : Outstanding) (c : Fin 4) : (Entry.orphaned r).holdsCredit c = decide (r.cls = c) := rfl

@[simp] theorem orphan_holdsCredit (e : Entry) (c : Fin 4) : e.orphan.holdsCredit c = e.holdsCredit c := by cases e <;> rfl

theorem isFree_iff (e : Entry) : e.isFree = true ↔ e = .free := by cases e <;> simp [Entry.isFree]

/-- An entry that holds a credit of no class is FREE. -/
theorem isFree_iff_holdsNoCredit (e : Entry) : e.isFree = true ↔ ∀ c, e.holdsCredit c = false := by
  cases e <;> simp [Entry.isFree]

theorem classEntries_eq_zero_iff (s : State) (c : Fin 4) : s.classEntries c = 0 ↔ ∀ d, (s.entry d).holdsCredit c = false := by
  simp [State.classEntries, countFin_eq_card, Finset.filter_eq_empty_iff]

/-- No entry holds a credit exactly while every entry is FREE. -/
theorem classEntries_all_zero_iff (s : State) : (∀ c, s.classEntries c = 0) ↔ ∀ d, (s.entry d).isFree = true := by
  simp only [classEntries_eq_zero_iff, isFree_iff_holdsNoCredit]
  exact forall_comm

/-- R110 and R136 as one equation: an account holds the default credit while DN_RDY is high, and nothing while it is low. -/
theorem creditLaw_iff (s : State) : s.CreditLaw ↔
    (s.resetN = .high → ∀ c, s.creditAccount c = if s.dnRdy = .high then (s.cls c).defaultCredit else 0) := by
  refine forall_congr' fun _ => ?_
  cases s.dnRdy with
  | low => simp [State.creditAccount, forall_and, classEntries_all_zero_iff]
  | high => simp [State.creditAccount]

/-! ### What keeps the accounts -/

/-- The two states have the same accounts; a default credit may change while DN_RDY is low (R111). -/
structure State.SameCredits (s t : State) : Prop where
  resetN : t.resetN = s.resetN
  dnRdy : t.dnRdy = s.dnRdy
  account : ∀ c, t.creditAccount c = s.creditAccount c
  defaultCredit : s.dnRdy = .high → ∀ c, (t.cls c).defaultCredit = (s.cls c).defaultCredit

theorem creditLaw_of_same {s t : State} (h : s.SameCredits t) (hs : s.CreditLaw) : t.CreditLaw := by
  rw [creditLaw_iff] at hs ⊢
  intro hr c
  rw [h.account, hs (h.resetN ▸ hr), h.dnRdy]
  split
  · exact (h.defaultCredit ‹_› c).symm
  · rfl

namespace State.SameCredits

theorem refl (s : State) : s.SameCredits s := ⟨rfl, rfl, fun _ => rfl, fun _ _ => rfl⟩

theorem trans {s t u : State} (h : s.SameCredits t) (h' : t.SameCredits u) : s.SameCredits u where
  resetN := h'.resetN.trans h.resetN
  dnRdy := h'.dnRdy.trans h.dnRdy
  account c := (h'.account c).trans (h.account c)
  defaultCredit hd c := (h'.defaultCredit (h.dnRdy.trans hd) c).trans (h.defaultCredit hd c)

/-- What writes neither a class nor an entry keeps the accounts. -/
theorem of_frame {s t : State} (h : t.resetN = s.resetN ∧ t.dnRdy = s.dnRdy ∧ t.classes = s.classes ∧ t.entries = s.entries) :
    s.SameCredits t := by
  obtain ⟨hreset, hready, hclasses, hentries⟩ := h
  have hcls : ∀ c, t.cls c = s.cls c := fun c => by simp only [State.cls, hclasses]
  have hentry : ∀ d, t.entry d = s.entry d := fun d => by simp only [State.entry, hentries]
  exact ⟨hreset, hready, fun c => by simp only [State.creditAccount, State.classEntries, hcls, hentry], fun _ c => by rw [hcls]⟩

end State.SameCredits

/-- What an entry that is written holds of a class, in place of what it held. -/
theorem classEntries_setEntry (s : State) (d : Fin 64) (e : Entry) (c : Fin 4) :
    (s.setEntry d e).classEntries c + (if (s.entry d).holdsCredit c then 1 else 0) =
      s.classEntries c + (if e.holdsCredit c then 1 else 0) := by
  have h := countFin_update (p := fun i => (s.entry i).holdsCredit c) (q := fun i => ((s.setEntry d e).entry i).holdsCredit c) d
    fun i hi => by rw [State.setEntry_entry_ne _ _ _ _ hi]
  rwa [State.setEntry_entry_self] at h

/-- An entry that holds the credits it held, in place of the old one. -/
theorem setEntry_sameCredits {s : State} {d : Fin 64} {e : Entry} (h : ∀ c, e.holdsCredit c = (s.entry d).holdsCredit c) :
    s.SameCredits (s.setEntry d e) := by
  refine ⟨rfl, rfl, fun c => ?_, fun _ _ => rfl⟩
  have he := classEntries_setEntry s d e c
  rw [h c] at he
  exact congrArg ((s.cls c).credits + ·) (Nat.add_right_cancel he)

/-- All ACTIVE entries orphaned at once. -/
theorem sameCredits_of_orphaned {s t : State} (hr : t.resetN = s.resetN) (hd : t.dnRdy = s.dnRdy) (hc : t.classes = s.classes)
    (he : ∀ d, t.entry d = (s.entry d).orphan) : s.SameCredits t := by
  have hcls : ∀ c, t.cls c = s.cls c := fun c => by simp only [State.cls, hc]
  exact ⟨hr, hd, fun c => by simp [State.creditAccount, State.classEntries, hcls, he], fun _ c => by rw [hcls]⟩

/-! ### Dispatch and completions -/

/-- The entry that the Outstanding Table gives is FREE (R118). -/
theorem entry_of_freeEntry {s : State} {d : Fin 64} (h : s.freeEntry = some d) : s.entry d = .free :=
  (isFree_iff _).1 (List.find?_some (p := fun d => (s.entry d).isFree) h)

/-- A class that is granted is eligible (R115). -/
theorem eligible_of_winner {s : State} {c : Fin 4} (h : s.winner = some c) : s.eligible c = true :=
  List.find?_some (p := fun c => s.eligible c) h

/-- A credit passes between a class and an entry: the class and the entry together hold what they held. -/
theorem sameCredits_of_exchange {s : State} {c : Fin 4} {d : Fin 64} {e : Entry} {credits : Nat}
    (hothers : ∀ i, i ≠ c → e.holdsCredit i = (s.entry d).holdsCredit i)
    (hsum : credits + (if e.holdsCredit c then 1 else 0) = (s.cls c).credits + if (s.entry d).holdsCredit c then 1 else 0) :
    s.SameCredits ((s.setEntry d e).setClass c { s.cls c with credits := credits }) := by
  have hentries (i : Fin 4) := classEntries_setEntry s d e i
  refine ⟨rfl, rfl, fun i => ?_, fun _ i => ?_⟩
  · change (((s.setEntry d e).setClass c { s.cls c with credits := credits }).cls i).credits + (s.setEntry d e).classEntries i =
      (s.cls i).credits + s.classEntries i
    have he := hentries i
    by_cases hi : i = c
    · rw [hi] at he ⊢
      rw [State.setClass_cls_self]
      change credits + _ = _
      omega
    · rw [State.setClass_cls_ne _ _ _ _ hi, State.setEntry_cls]
      rw [hothers i hi] at he
      omega
  · by_cases hi : i = c
    · rw [hi, State.setClass_cls_self]
    · rw [State.setClass_cls_ne _ _ _ _ hi, State.setEntry_cls]

/-- A grant spends a credit of the class, and the entry then holds it (R118). -/
theorem grantHead_sameCredits {s : State} {c : Fin 4} {d : Fin 64} (hcredit : 1 ≤ (s.cls c).credits) (hfree : s.entry d = .free)
    (r : StoredReq) (rest : List StoredReq) : s.SameCredits (s.grantHead c r rest d) := by
  have hx : s.SameCredits ((s.setEntry d (.active (s.entryFor c r))).setClass c
      { s.cls c with credits := (s.cls c).credits - 1 }) := by
    refine sameCredits_of_exchange (fun i hi => ?_) ?_
    · simp [hfree, State.entryFor, Ne.symm hi]
    · simp [hfree, State.entryFor]
      omega
  exact hx.trans (.of_frame ⟨rfl, rfl, rfl, rfl⟩)

/-- A completion returns the credit that its entry held (R130, R132). -/
theorem returnCredit_sameCredits {s : State} {d : Fin 64} {c : Fin 4} (h : ∀ i, (s.entry d).holdsCredit i = decide (c = i)) :
    s.SameCredits ((s.returnCredit c).setEntry d .free) := by
  have hx : s.SameCredits ((s.setEntry d .free).setClass c { s.cls c with credits := (s.cls c).credits + 1 }) := by
    refine sameCredits_of_exchange (fun i hi => ?_) ?_
    · simp [h, Ne.symm hi]
    · simp [h]
  exact hx.trans (.of_frame ⟨rfl, rfl, rfl, rfl⟩)

theorem measure_sameCredits (s : State) (r : Outstanding) (isError : Bool) : s.SameCredits (s.measure r isError) := by
  cases isError <;> exact .of_frame (by simp [State.measure, State.offerResidence])

/-- A downstream completion, whatever entry it finds (R128). -/
theorem matchCompletion_sameCredits (s : State) (m : DCompletion) : s.SameCredits (s.matchCompletion m) := by
  unfold State.matchCompletion
  split
  · rename_i r hentry
    have hback := returnCredit_sameCredits (s := s.joinReturn ⟨r.source, wireTag r.tag, (answerOf r m).1, (answerOf r m).2⟩)
      (d := m.tag) (c := r.cls) fun i => by rw [State.joinReturn_entry, hentry, holdsCredit_active]
    have hjoin (x : Completion) : s.SameCredits (s.joinReturn x) := .of_frame ⟨rfl, rfl, rfl, rfl⟩
    exact ((hjoin _).trans hback).trans (measure_sameCredits _ r _)
  · rename_i r hentry
    have hback := returnCredit_sameCredits (s := s) (d := m.tag) (c := r.cls) fun i => by rw [hentry, holdsCredit_orphaned]
    exact hback.trans (.of_frame (by simp [State.completeLate]))
  · exact .of_frame (by simp [State.completeStray])

/-- A response timeout keeps its entry's credit out (R134). -/
theorem timeOut_sameCredits {s : State} {d : Fin 64} {r : Outstanding} (h : s.entry d = .active r) : s.SameCredits (s.timeOut d r) := by
  have hjoin : s.SameCredits (s.joinReturn (bareCompletion r.source (wireTag r.tag) .timeout)) := .of_frame ⟨rfl, rfl, rfl, rfl⟩
  have horphan := hjoin.trans (setEntry_sameCredits (d := d) (e := .orphaned { r with due := none }) fun c => by simp [h])
  exact horphan.trans (.of_frame (by simp [State.timeOut]))

/-! ### Arrivals -/

theorem placeArrival_sameCredits (s : State) (r : StoredReq) : s.SameCredits (s.placeArrival r) := by
  refine .of_frame ?_
  simp only [State.placeArrival]
  split
  · simp
  split
  · simp
  split
  · simp only [State.holdRequest]
    split <;> simp
  · simp

theorem decideArrival_sameCredits (s : State) (q : Request) (k : Kind) (tag : Fin 16) : s.SameCredits (s.decideArrival q k tag) := by
  have hrefuse (reason : Reason) : s.SameCredits (s.refuse q.source tag reason) := .of_frame (by simp)
  unfold State.decideArrival
  split
  · exact hrefuse _
  · split
    · exact hrefuse _
    · exact hrefuse _
    all_goals
      split
      · exact hrefuse _
      · exact placeArrival_sameCredits s _

/-- The four ways a take goes (R5, R7 to R10). -/
theorem takeRequest_sameCredits (s : State) (q : Request) : s.SameCredits (s.takeRequest q) := by
  have hmalformed (u : State) (tag : Fin 64) : u.SameCredits (u.refuseMalformed q.source tag) :=
    .of_frame (by simp [State.refuseMalformed])
  simp only [State.takeRequest]
  have hticket : s.SameCredits { s with tickets := s.tickets + 1 } := .of_frame ⟨rfl, rfl, rfl, rfl⟩
  refine hticket.trans ?_
  split
  · exact hmalformed _ _
  · split
    · exact .of_frame (by simp [State.dropDuplicate])
    · rename_i tag _ _
      have hlive (u : State) : u.SameCredits (u.setLive q.source tag true) := .of_frame ⟨rfl, rfl, rfl, rfl⟩
      refine (hlive _).trans ?_
      split
      · exact hmalformed _ _
      · split
        · exact hmalformed _ _
        · exact (State.SameCredits.of_frame (by simp)).trans (decideArrival_sameCredits _ q _ tag)

/-! ### Timers and trigger lines -/

theorem settle_sameCredits (s : State) (n : Fin 4) (level : Level) : s.SameCredits (s.settle n level) := .of_frame (by simp)

theorem pinChange_sameCredits (s : State) (n : Fin 4) (level : Level) : s.SameCredits (s.pinChange n level) := by
  have hset (l : Line) : s.SameCredits (s.setLine n l) := .of_frame ⟨rfl, rfl, rfl, rfl⟩
  simp only [State.pinChange]
  split
  · exact hset _
  · split
    · exact (hset _).trans (settle_sameCredits _ n level)
    · exact hset _

theorem writeLine_sameCredits (s : State) (n : Fin 4) (edge : EdgeSetting) (filter : Nat) :
    s.SameCredits (s.writeLine n edge filter) := by
  have hset (l : Line) : s.SameCredits (s.setLine n l) := .of_frame ⟨rfl, rfl, rfl, rfl⟩
  simp only [State.writeLine]
  split
  · exact hset _
  · split
    · exact (hset _).trans (settle_sameCredits _ n _)
    · exact hset _

/-! ### Source commands, CLASS_WRITE and TRAFFIC_RESET -/

theorem disableSource_sameCredits (s : State) (src : Fin 32) : s.SameCredits (s.disableSource src) := by
  by_cases hp : (s.contract src).state = .paced
  · rw [disableSource_of_paced hp, disablePaced_eq, (releaseList_spec src _ _).1]
    exact .of_frame (by simp [State.halt])
  · rw [disableSource_of_not_paced hp]
    exact .of_frame ⟨rfl, rfl, rfl, rfl⟩

/-- CLASS_WRITE writes no credit count, and the default credit only while DN_RDY is low (R111). -/
theorem writeClass_sameCredits (s : State) (c : Fin 4) (credit limit : Nat) (edges : Vector Nat 7) :
    s.SameCredits (s.writeClass c credit limit edges) := by
  have hset : s.SameCredits
      (s.setClass c { (s.cls c).writeCredit s.dnRdy credit with responseLimit := limit, edges := edges }) := by
    have hcredits : ((s.cls c).writeCredit s.dnRdy credit).credits = (s.cls c).credits := by cases s.dnRdy <;> rfl
    refine ⟨rfl, rfl, fun i => ?_, fun hd i => ?_⟩
    · refine congrArg (· + s.classEntries i) ?_
      rw [State.setClass_cls]
      split
      · rw [‹i = c›]
        exact hcredits
      · rfl
    · rw [State.setClass_cls, hd]
      split
      · rw [‹i = c›]
        rfl
      · rfl
  simp only [State.writeClass]
  split
  · exact hset
  · exact hset.trans (.of_frame ⟨rfl, rfl, rfl, rfl⟩)

theorem abortTraffic_sameCredits (s : State) : s.SameCredits s.abortTraffic :=
  sameCredits_of_orphaned rfl rfl rfl fun d => by simp [State.entry, State.abortTraffic]

theorem restartContract_sameCredits (s : State) (src : Fin 32) : s.SameCredits (s.restartContract src) := by
  unfold State.restartContract
  split
  · exact .of_frame (by simp)
  · exact .refl s

theorem restartContracts_sameCredits (s : State) (l : List (Fin 32)) : s.SameCredits (s.restartContracts l) := by
  induction l generalizing s with
  | nil => exact .refl s
  | cons src rest ih => exact (restartContract_sameCredits s src).trans (ih _)

theorem resetTraffic_sameCredits (s : State) : s.SameCredits s.resetTraffic := by
  unfold State.resetTraffic
  exact (abortTraffic_sameCredits s).trans (restartContracts_sameCredits _ _)

/-! ### Answers of the management port -/

theorem answerSource_sameCredits {s : State} {effect : State → Fin 32 → State} (he : ∀ src, s.SameCredits (effect s src))
    (cmd : SourceCmd) (f : Frame) : s.SameCredits (answerSource cmd effect f s).state := by
  unfold answerSource
  repeat' split
  any_goals exact .refl s
  exact he _

theorem answerContractWrite_sameCredits (s : State) (f : Frame) : s.SameCredits (answerContractWrite f s).state := by
  unfold answerContractWrite
  repeat' split
  all_goals exact .of_frame ⟨rfl, rfl, rfl, rfl⟩

theorem answerClassWrite_sameCredits (s : State) (f : Frame) : s.SameCredits (answerClassWrite f s).state := by
  unfold answerClassWrite
  repeat' split
  any_goals exact .refl s
  all_goals exact writeClass_sameCredits s _ _ _ _

theorem answerLineWrite_sameCredits (s : State) (f : Frame) : s.SameCredits (answerLineWrite f s).state := by
  unfold answerLineWrite
  repeat' split
  any_goals exact .refl s
  exact writeLine_sameCredits s _ _ _

theorem answerTrafficReset_sameCredits (s : State) (f : Frame) : s.SameCredits (answerTrafficReset f s).state := by
  unfold answerTrafficReset
  split
  · exact .refl s
  · dsimp only
    exact resetTraffic_sameCredits s

theorem answerCounters_sameCredits (s : State) (f : Frame) {after : State → Group → State} (h : ∀ g, s.SameCredits (after s g)) :
    s.SameCredits (answerCounters after f s).state := by
  unfold answerCounters
  repeat' split
  any_goals exact .refl s
  exact h _

theorem clearGroup_sameCredits (s : State) (g : Group) : s.SameCredits (s.clearGroup g) := by
  cases g <;> exact .of_frame ⟨rfl, rfl, rfl, rfl⟩

theorem answerStatus_sameCredits (s : State) (f : Frame) : s.SameCredits (answerStatus f s).state := by
  unfold answerStatus
  repeat' split
  all_goals exact .of_frame ⟨rfl, rfl, rfl, rfl⟩

theorem answerGlobalWrite_sameCredits (s : State) (f : Frame) : s.SameCredits (answerGlobalWrite f s).state := by
  unfold answerGlobalWrite
  repeat' split
  all_goals exact .of_frame ⟨rfl, rfl, rfl, rfl⟩

theorem answerRegionWrite_sameCredits (s : State) (f : Frame) : s.SameCredits (answerRegionWrite f s).state := by
  unfold answerRegionWrite
  repeat' split
  all_goals exact .of_frame ⟨rfl, rfl, rfl, rfl⟩

theorem answerEventRelease_sameCredits (s : State) (f : Frame) : s.SameCredits (answerEventRelease f s).state := by
  unfold answerEventRelease
  repeat' split
  all_goals exact .of_frame ⟨rfl, rfl, rfl, rfl⟩

/-- A management command keeps the accounts where its effect does. -/
theorem manage_sameCredits {s t : State} {opcode : Byte} {a : Answer} (ha : s.SameCredits a.state)
    (h : s.manage opcode a = .next t) : s.SameCredits t := by
  by_cases hl : s.listening
  · rw [manage_listening hl] at h
    cases h
    exact ha.trans (.of_frame ⟨rfl, rfl, rfl, rfl⟩)
  · rw [manage_not_listening hl] at h
    cases h
    exact .refl s

/-- A command with its length judged first (R173). -/
theorem manage_judged_sameCredits {s t : State} {opcode : Byte} {f : Frame} {a : Answer} (ha : s.SameCredits a.state)
    (h : s.manage opcode (judged f s a) = .next t) : s.SameCredits t := by
  refine manage_sameCredits ?_ h
  unfold judged
  split
  · exact .refl s
  · exact ha

/-- A command that only reads. -/
theorem manage_read_sameCredits {s t : State} {opcode : Byte} {f : Frame} {a : Answer} (ha : a.state = s)
    (h : s.manage opcode (judged f s a) = .next t) : s.SameCredits t :=
  manage_judged_sameCredits (ha ▸ .refl s) h

/-- The commands of the management port keep the accounts. -/
theorem exec_management_sameCredits {c : Instr} {s t : State} (hc : c.frame?.isSome = true) (h : exec c s = .next t) :
    s.SameCredits t := by
  cases c with
  | enable f =>
    exact manage_judged_sameCredits (answerSource_sameCredits (fun _ => .of_frame (by simp [State.enableSource])) _ f) h
  | disable f => exact manage_judged_sameCredits (answerSource_sameCredits (disableSource_sameCredits s) _ f) h
  | bar f => exact manage_judged_sameCredits (answerSource_sameCredits (fun _ => .of_frame (by simp [State.barSource])) _ f) h
  | unbar f => exact manage_judged_sameCredits (answerSource_sameCredits (fun _ => .of_frame ⟨rfl, rfl, rfl, rfl⟩) _ f) h
  | arm f => exact manage_judged_sameCredits (answerSource_sameCredits (fun _ => .of_frame (by simp [State.armSource])) _ f) h
  | contractWrite f => exact manage_judged_sameCredits (answerContractWrite_sameCredits s f) h
  | classWrite f => exact manage_judged_sameCredits (answerClassWrite_sameCredits s f) h
  | lineWrite f => exact manage_judged_sameCredits (answerLineWrite_sameCredits s f) h
  | trafficReset f => exact manage_judged_sameCredits (answerTrafficReset_sameCredits s f) h
  | countersRead f => exact manage_judged_sameCredits (answerCounters_sameCredits s f fun _ => .refl s) h
  | countersReadClear f => exact manage_judged_sameCredits (answerCounters_sameCredits s f (clearGroup_sameCredits s)) h
  | status f => exact manage_judged_sameCredits (answerStatus_sameCredits s f) h
  | globalWrite f => exact manage_judged_sameCredits (answerGlobalWrite_sameCredits s f) h
  | regionWrite f => exact manage_judged_sameCredits (answerRegionWrite_sameCredits s f) h
  | eventRelease f => exact manage_judged_sameCredits (answerEventRelease_sameCredits s f) h
  | unknownOpcode o f => exact manage_sameCredits (.refl s) h
  | identify f => exact manage_read_sameCredits (answerIdentify_state f s) h
  | timeRead f => exact manage_read_sameCredits (answerTimeRead_state f s) h
  | globalRead f => exact manage_read_sameCredits (answerGlobalRead_state f s) h
  | eventRead f => exact manage_read_sameCredits (answerEventRead_state f s) h
  | contractRead f => exact manage_read_sameCredits (answerContractRead_state f s) h
  | holdRead f => exact manage_read_sameCredits (answerHoldRead_state f s) h
  | regionRead f => exact manage_read_sameCredits (answerRegionRead_state f s) h
  | classRead f => exact manage_read_sameCredits (answerClassRead_state f s) h
  | lineRead f => exact manage_read_sameCredits (answerLineRead_state f s) h
  | _ => cases hc

/-! ### The part's own events -/

theorem execGrant_sameCredits {s t : State} (h : execGrant s = .next t) : s.SameCredits t := by
  unfold execGrant at h
  split at h
  · rename_i c d hwinner hfree
    split at h <;> cases h
    · obtain ⟨-, hcredit, -⟩ := (eligible_iff s c).1 (eligible_of_winner hwinner)
      exact grantHead_sameCredits hcredit (entry_of_freeEntry hfree) _ _
    · exact .refl s
  · cases h
    exact .refl s

theorem execResponseTimeout_sameCredits {s t : State} {d : Fin 64} (h : execResponseTimeout d s = .next t) : s.SameCredits t := by
  unfold execResponseTimeout at h
  repeat' split at h
  all_goals cases h
  · exact timeOut_sameCredits ‹_›
  all_goals exact .refl s

theorem execTransitionSettles_sameCredits {s t : State} {n : Fin 4} (h : execTransitionSettles n s = .next t) : s.SameCredits t := by
  unfold execTransitionSettles at h
  repeat' split at h
  all_goals cases h
  · exact settle_sameCredits s n _
  all_goals exact .refl s

theorem execTriggerPinChange_sameCredits {s t : State} {n : Fin 4} {level : Level} (h : execTriggerPinChange n level s = .next t) :
    s.SameCredits t := by
  unfold execTriggerPinChange at h
  repeat' split at h
  all_goals cases h
  · exact .of_frame ⟨rfl, rfl, rfl, rfl⟩
  · exact .refl s
  · exact pinChange_sameCredits s n level

theorem execHandOver_sameCredits {s t : State} (h : execHandOver s = .next t) : s.SameCredits t := by
  unfold execHandOver at h
  split at h <;> cases h
  · exact .refl s
  · rw [handOverHead_eq]
    exact .of_frame ⟨rfl, rfl, rfl, rfl⟩

theorem execUpstreamReset_sameCredits {s t : State} (h : execUpstreamReset s = .next t) : s.SameCredits t := by
  unfold execUpstreamReset at h
  repeat' split at h
  all_goals cases h
  · exact .of_frame ⟨rfl, rfl, rfl, rfl⟩
  · exact .refl s
  · exact sameCredits_of_orphaned (by simp [State.dropUpstream]) (by simp [State.dropUpstream]) (by simp [State.dropUpstream])
      fun d => by simp

theorem execCommandCut_sameCredits {s t : State} {bytes : List Byte} (h : execCommandCut bytes s = .next t) : s.SameCredits t := by
  unfold execCommandCut at h
  repeat' split at h
  all_goals
    cases h
    exact .of_frame ⟨rfl, rfl, rfl, rfl⟩

theorem execResponseCut_sameCredits {s t : State} {n : Nat} (h : execResponseCut n s = .next t) : s.SameCredits t := by
  unfold execResponseCut at h
  repeat' split at h
  all_goals
    cases h
    exact .of_frame ⟨rfl, rfl, rfl, rfl⟩

/-- An outcome chosen by a test keeps the accounts where both of its ways do. -/
theorem ite_sameCredits {p : Prop} [Decidable p] {s t u v : State}
    (h : (if p then (.next u : Host.Outcome State Fault Refusal) else .next v) = .next t) (hu : s.SameCredits u)
    (hv : s.SameCredits v) : s.SameCredits t := by
  split at h <;> cases h
  · exact hu
  · exact hv

/-! ### DN_RDY -/

@[simp] theorem loadCredits_cls (s : State) (c : Fin 4) : s.loadCredits.cls c = (s.cls c).load := by
  simp [State.cls, State.loadCredits]

@[simp] theorem dropDownstream_cls (s : State) (c : Fin 4) : s.dropDownstream.cls c = { s.cls c with credits := 0 } := by
  simp [State.cls, State.dropDownstream]

@[simp] theorem dropDownstream_entry (s : State) (d : Fin 64) : s.dropDownstream.entry d = .free := by
  simp [State.entry, State.dropDownstream]

/-- A downstream up finds every account empty, and fills it with the default credit (R112). -/
theorem execDownstreamUp_creditLaw {s t : State} (hs : s.CreditLaw) (h : execDownstreamUp s = .next t) : t.CreditLaw := by
  unfold execDownstreamUp at h
  split at h <;> cases h
  · exact hs
  · rename_i hup
    have hreset : s.resetN = .high := by cases hr : s.resetN <;> simp_all
    have hready : s.dnRdy = .low := by cases hd : s.dnRdy <;> simp_all
    have hload : s.loadCredits.CreditLaw := by
      rw [creditLaw_iff] at hs ⊢
      intro _ c
      have hempty := hs hreset c
      rw [hready] at hempty
      have hentries : s.loadCredits.classEntries c = 0 := (Nat.add_eq_zero_iff.1 hempty).2
      rw [State.creditAccount, hentries, loadCredits_cls]
      rfl
    exact creditLaw_of_same (.of_frame (by simp)) hload

/-- A downstream down empties every account (R113, R136). -/
theorem dropDownstream_creditLaw (s : State) : s.dropDownstream.CreditLaw := by
  rw [creditLaw_iff]
  intro _ c
  have hentries : s.dropDownstream.classEntries c = 0 := (classEntries_eq_zero_iff _ c).2 fun d => by simp
  rw [State.creditAccount, hentries, dropDownstream_cls]
  rfl

theorem execDownstreamDown_creditLaw {s t : State} (hs : s.CreditLaw) (h : execDownstreamDown s = .next t) : t.CreditLaw := by
  unfold execDownstreamDown at h
  split at h <;> cases h
  · exact hs
  · exact creditLaw_of_same (.of_frame (by simp)) (dropDownstream_creditLaw s)

/-! ### Every command -/

theorem powerOn_creditLaw (upRdy dnRdyPin : Level) (trig : Vector Level 4) (port : Port) (pending : List Instr)
    (wire : List PortEdge) (choices : Nat) : (State.powerOn upRdy dnRdyPin trig port pending wire choices).CreditLaw := by
  refine fun _ => ⟨fun hd => (nomatch hd), fun _ => ⟨fun c => ?_, fun d => ?_⟩⟩
  · rw [State.powerOn_cls]
    rfl
  · rw [State.powerOn_entry]
    rfl

theorem exec_creditLaw {c : Instr} {s t : State} (hs : s.CreditLaw) (h : exec c s = .next t) : t.CreditLaw := by
  have hsame (hk : s.SameCredits t) : t.CreditLaw := creditLaw_of_same hk hs
  cases c with
  | powerOnReset mcsN =>
    cases h
    exact powerOn_creditLaw _ _ _ _ _ _ _
  | resetNFall =>
    change (if s.resetN = .low then _ else _) = _ at h
    split at h <;> cases h
    · exact hs
    · exact fun hr => by cases hr
  | downstreamDown => exact execDownstreamDown_creditLaw hs h
  | downstreamUp => exact execDownstreamUp_creditLaw hs h
  | upstreamReset => exact hsame (execUpstreamReset_sameCredits h)
  | upRdyRise =>
    cases h
    exact hs
  | take header data => exact hsame (ite_sameCredits h (takeRequest_sameCredits s _) (.refl s))
  | handOver => exact hsame (execHandOver_sameCredits h)
  | grant => exact hsame (execGrant_sameCredits h)
  | downstreamCompletion header data => exact hsame (ite_sameCredits h (.refl s) (matchCompletion_sameCredits s _))
  | responseTimeout d => exact hsame (execResponseTimeout_sameCredits h)
  | boundary src => exact hsame (ite_sameCredits h (.of_frame (by simp)) (.refl s))
  | headExpiry src => exact hsame (ite_sameCredits h (.of_frame (by simp)) (.refl s))
  | windowEnd src => exact hsame (ite_sameCredits h (.of_frame (by simp)) (.refl s))
  | triggerPinChange n level => exact hsame (execTriggerPinChange_sameCredits h)
  | transitionSettles n => exact hsame (execTransitionSettles_sameCredits h)
  | commandCut bytes => exact hsame (execCommandCut_sameCredits h)
  | responseCut n => exact hsame (execResponseCut_sameCredits h)
  | _ => exact hsame (exec_management_sameCredits rfl h)

/-- Settles O55: a step takes one command, or none, on a state with the same accounts, and only DN_RDY and the resets change what an account
holds. -/
theorem stepKeepsCreditLaw : Obligations.StepKeepsCreditLaw := by
  intro s t hs h
  obtain ⟨u, hu, h⟩ := step_cases h
  have hlaw : u.CreditLaw := creditLaw_of_same (.of_frame (by rw [hu]; exact ⟨rfl, rfl, rfl, rfl⟩)) hs
  obtain ⟨c, h⟩ | rfl | rfl := h
  · exact exec_creditLaw hlaw h
  · rw [tick_eq]
    exact hlaw
  · exact hlaw

end Sys2Proof.Machine
end

section
/-! The Dispatch Unit: the arbiter's choice, the grant, CLASS_WRITE and DOWNSTREAM_UP; the statements about single commands of chapter 6. -/

namespace Sys2Proof.Machine

/-! ### The arbiter (R114 to R117) -/

/-- ROTATE looks at the classes upward from the rotation pointer, and wraps (R116). -/
theorem arbiterOrder_of_rotate {s : State} (h : s.globals.policy = .rotate) :
    s.arbiterOrder = (List.finRange 4).map fun k => s.rotation + k := by
  simp only [State.arbiterOrder, h]
  exact congrArg (· :: [s.rotation + 1, s.rotation + 2, s.rotation + 3]) (add_zero s.rotation).symm

theorem arbiterOrder_of_strict {s : State} (h : s.globals.policy = .strict) : s.arbiterOrder = List.finRange 4 := by
  simp only [State.arbiterOrder, h]
  rfl

/-- A search of the indexes from 0 upward ends at the first one that meets the test. -/
theorem find_finRange_of_first {n : Nat} {p : Fin n → Bool} {k : Fin n} (h : p k = true) (hlow : ∀ j < k, ¬ p j = true) :
    (List.finRange n).find? p = some k := by
  refine List.find?_eq_some_iff_getElem.2 ⟨h, k, by simp, by simp, fun j hj => ?_⟩
  simpa using hlow ⟨j, hj.trans k.isLt⟩ hj

theorem winner_of_rotate {s : State} (hpolicy : s.globals.policy = .rotate) {k : Fin 4} (h : s.eligible (s.rotation + k) = true)
    (hlow : ∀ j < k, ¬ s.eligible (s.rotation + j) = true) : s.winner = some (s.rotation + k) := by
  rw [State.winner, arbiterOrder_of_rotate hpolicy, List.find?_map,
    find_finRange_of_first (p := (fun c => s.eligible c) ∘ fun k => s.rotation + k) h hlow]
  rfl

theorem winner_of_strict {s : State} (hpolicy : s.globals.policy = .strict) {c : Fin 4} (h : s.eligible c = true)
    (hlow : ∀ j < c, ¬ s.eligible j = true) : s.winner = some c := by
  rw [State.winner, arbiterOrder_of_strict hpolicy]
  exact find_finRange_of_first h hlow

theorem winner_of_none {s : State} (h : ∀ c, ¬ s.eligible c = true) : s.winner = none := by
  rw [← Option.not_isSome_iff_eq_none, winner_isSome]
  rintro ⟨c, hc⟩
  exact h c hc

theorem exec_grant_of_none {s : State} (h : s.winner = none) : exec .grant s = .next s := by
  simp only [exec, execGrant, h]

/-- Settles O17: each policy's order is a search upward, which ends at the first eligible class or finds none. -/
theorem arbiterGrantsByPolicy : Obligations.ArbiterGrantsByPolicy := by
  intro s eligible
  have heligible (c : Fin 4) : s.eligible c = true ↔ eligible c := eligible_iff s c
  refine ⟨heligible, fun hpolicy k hk hlow => ?_, fun hpolicy c hc hlow => ?_, fun hnone => ?_⟩
  · exact winner_of_rotate hpolicy ((heligible _).2 hk) fun j hj => mt (heligible _).1 (hlow j hj)
  · exact winner_of_strict hpolicy ((heligible c).2 hc) fun j hj => mt (heligible j).1 (hlow j hj)
  · have hw := winner_of_none fun c => mt (heligible c).1 (hnone c)
    exact ⟨hw, exec_grant_of_none hw⟩

/-! ### The grant (R118) -/

/-- The entry given is the FREE one with no FREE one below it. -/
theorem freeEntry_of_lowest {s : State} {d : Fin 64} (h : s.entry d = .free) (hlow : ∀ e < d, s.entry e ≠ .free) :
    s.freeEntry = some d :=
  find_finRange_of_first ((isFree_iff _).2 h) fun e he => mt (isFree_iff _).1 (hlow e he)

theorem exec_grant_of_head {s : State} {c : Fin 4} {r : StoredReq} {rest : List StoredReq} {d : Fin 64} (hwinner : s.winner = some c)
    (hqueue : s.queue c = r :: rest) (hentry : s.freeEntry = some d) : exec .grant s = .next (s.grantHead c r rest d) := by
  simp only [exec, execGrant, hwinner, hentry, hqueue]

/-- Settles O18: the grant goes to the head of the winner's queue and to the lowest FREE entry. -/
theorem grantSendsTheHead : Obligations.GrantSendsTheHead :=
  fun _ _ _ _ _ hwinner hqueue hfree hlow => exec_grant_of_head hwinner hqueue (freeEntry_of_lowest hfree hlow)

/-! ### CLASS_WRITE (R111, R121, R151) -/

theorem edgesLegal_classEdges_iff (f : Frame) :
    edgesLegal (classEdges f) = true ↔ f.u16 3 ≠ 0 ∧ ∀ i < 6, f.u16 (3 + 2 * i) < f.u16 (5 + 2 * i) := by
  have hget (i : Fin 7) : (classEdges f)[i] = f.u16 (3 + 2 * i.val) := by simp [classEdges]
  have hfirst : (classEdges f)[0] = f.u16 3 := hget 0
  have hnext (i : Fin 6) : (classEdges f)[i.succ] = f.u16 (5 + 2 * i.val) := by
    rw [hget, Fin.val_succ, show 3 + 2 * (i.val + 1) = 5 + 2 * i.val by omega]
  simp only [edgesLegal, Bool.and_eq_true, decide_eq_true_eq, List.all_eq_true, List.mem_finRange, true_implies, hfirst, hnext,
    hget, Fin.val_castSucc, Nat.pos_iff_ne_zero]
  exact and_congr_right fun _ => Fin.forall_iff

theorem classEdges_eq (f : Frame) :
    classEdges f = #v[f.u16 3, f.u16 5, f.u16 7, f.u16 9, f.u16 11, f.u16 13, f.u16 15] := rfl

/-- The default credit is applied, and a staged one discarded, while DN_RDY is low; it is staged while DN_RDY is high (R111). -/
theorem writeCredit_eq (c : ClassRec) (dnRdy : Level) (credit : Nat) : c.writeCredit dnRdy credit =
    { c with
      defaultCredit := if dnRdy = .high then c.defaultCredit else credit
      stagedCredit := if dnRdy = .high then some credit else none } := by
  cases dnRdy <;> rfl

section answerClassWrite

variable {f : Frame} (s : State)

theorem exec_classWrite {s : State} (h : s.listening) (hlen : f.len.toNat ≤ 48) : exec (.classWrite f) s =
    .next ((answerClassWrite f s).state.answered 0x29#8 (answerClassWrite f s).status (answerClassWrite f s).data) := by
  rw [← manage_listening h, ← judged_of_len_le s (answerClassWrite f s) hlen]
  rfl

theorem answerClassWrite_badIndex (hi : 4 ≤ f.index.toNat) : answerClassWrite f s = refused .badIndex s := by
  simp only [answerClassWrite, indexBelow_eq_none hi]

theorem answerClassWrite_badLength (c : Fin 4) (hi : f.index.toNat = c.val) (hl : f.len.toNat ≠ 17) :
    answerClassWrite f s = refused .badLength s := by
  simp only [answerClassWrite, indexBelow_eq_some c hi, badLength_of_ne hl, if_true]

/-- The credit is judged before the edges, and both answer BAD_VALUE (R121 steps 3 and 4). -/
theorem answerClassWrite_badValue (c : Fin 4) (hi : f.index.toNat = c.val) (hl : f.len.toNat = 17)
    (hbad : f.u8 0 = 0 ∨ 32 < f.u8 0 ∨ edgesLegal (classEdges f) = false) : answerClassWrite f s = refused .badValue s := by
  simp only [answerClassWrite, indexBelow_eq_some c hi, badLength_of_eq hl, Bool.false_eq_true, if_false]
  by_cases hcredit : classCredit f = 0 ∨ 32 < classCredit f
  · rw [if_pos hcredit]
  · have hedges : edgesLegal (classEdges f) = false := (or_assoc.2 hbad).resolve_left hcredit
    rw [if_neg hcredit, hedges]
    rfl

theorem answerClassWrite_ok (c : Fin 4) (hi : f.index.toNat = c.val) (hl : f.len.toNat = 17) (hlow : 1 ≤ f.u8 0) (hhigh : f.u8 0 ≤ 32)
    (hedges : edgesLegal (classEdges f) = true) : answerClassWrite f s =
      ⟨if s.dnRdy = .high then .staged else .ok, [], s.writeClass c (f.u8 0) (f.u16 1) (classEdges f)⟩ := by
  have hcredit : ¬ (classCredit f = 0 ∨ 32 < classCredit f) := by
    rw [classCredit]
    omega
  simp only [answerClassWrite, indexBelow_eq_some c hi, badLength_of_eq hl, Bool.false_eq_true, if_false, if_neg hcredit, hedges,
    Bool.not_true]
  rfl

end answerClassWrite

/-- Settles O42: the checks in their order, and the credit of a write that passes by DN_RDY. -/
theorem classWriteAppliesOrStagesCredit : Obligations.ClassWriteAppliesOrStagesCredit := by
  intro f s hs hlen
  rw [exec_classWrite hs hlen]
  refine ⟨fun hi => ?_, fun hi hl => ?_, fun hi hl hbad => ?_, fun c hi hl hlow hhigh hfirst hascending => ?_⟩
  · rw [answerClassWrite_badIndex s hi]
    rfl
  · rw [answerClassWrite_badLength s ⟨_, hi⟩ rfl hl]
    rfl
  · have hbad' : f.u8 0 = 0 ∨ 32 < f.u8 0 ∨ edgesLegal (classEdges f) = false := by
      refine hbad.imp_right (Or.imp_right fun hedge => ?_)
      rw [← Bool.not_eq_true, edgesLegal_classEdges_iff]
      rintro ⟨hfirst, hascending⟩
      obtain hzero | ⟨i, hi6, hle⟩ := hedge
      · exact hfirst hzero
      · exact absurd (hascending i hi6) (not_lt.2 hle)
    rw [answerClassWrite_badValue s ⟨_, hi⟩ rfl hl hbad']
    rfl
  · rw [answerClassWrite_ok s c hi hl hlow hhigh ((edgesLegal_classEdges_iff f).2 ⟨hfirst, hascending⟩)]
    simp only [State.writeClass, writeCredit_eq, classEdges_eq]
    rfl

/-! ### DOWNSTREAM_UP (R112) -/

theorem exec_downstreamUp_of_low {s : State} (hr : s.resetN = .high) (hd : s.dnRdy = .low) :
    exec .downstreamUp s = .next (s.loadCredits.raise (.downstreamUp s.loadCredits.totalCredits)) :=
  if_neg (by simp [hr, hd])

theorem totalCredits_eq (s : State) :
    s.totalCredits = (s.cls 0).credits + (s.cls 1).credits + (s.cls 2).credits + (s.cls 3).credits := by
  rw [State.totalCredits, sumFin_eq_sum, Fin.sum_univ_four]

/-- Settles O9: the classes are loaded, and the event that is raised then writes the event queue alone. -/
theorem downstreamUpLoadsCredits : Obligations.DownstreamUpLoadsCredits := by
  intro s hr hd
  refine ⟨_, exec_downstreamUp_of_low hr hd, ?_, fun c => ?_⟩
  · have hcls (e : Event) (c : Fin 4) : (s.loadCredits.raise e).cls c = s.loadCredits.cls c := by simp
    simp only [hcls, ← totalCredits_eq]
    generalize Event.downstreamUp s.loadCredits.totalCredits = e
    have hevq : (s.loadCredits.raise e).evq = (s.raise e).evq := raise_evq_congr e rfl rfl rfl
    rw [← hevq, raise_eq]
    rfl
  · have hcls (e : Event) : (s.loadCredits.raise e).cls c = (s.cls c).load := by simp
    rw [hcls, ClassRec.load]
    cases (s.cls c).stagedCredit <;> exact ⟨rfl, rfl⟩

end Sys2Proof.Machine
end

section
/-! The Completion Unit: the match of a downstream completion, the answer to an ACTIVE entry with its measurement, late and stray
completions, response timeouts and DOWNSTREAM_DOWN; the statements about single commands of chapter 7. -/

namespace Sys2Proof.Machine

/-! ### The measurement (R144, R149, R150) -/

/-- No counter of a class is one of its latency extremes (R145, R149). -/
theorem ClassCounts.put_extremes (c : ClassCounts) (k : ClassCounter) (v : Counter) :
    (c.put k v).minLatency = c.minLatency ∧ (c.put k v).maxLatency = c.maxLatency := by
  cases k <;> exact ⟨rfl, rfl⟩

theorem countClass_extremes (s : State) (c i : Fin 4) (k : ClassCounter) :
    ((s.countClass c k).clsCount i).minLatency = (s.clsCount i).minLatency ∧
      ((s.countClass c k).clsCount i).maxLatency = (s.clsCount i).maxLatency := by
  rw [State.countClass_clsCount]
  split
  · rw [‹i = c›]
    exact ClassCounts.put_extremes _ _ _
  · exact ⟨rfl, rfl⟩

/-- The greater of two counters, as the number it is. -/
theorem ite_lt_eq_ofNat_max (a b : Counter) : (if a < b then b else a) = BitVec.ofNat 32 (max a.toNat b.toNat) := by
  split
  · rw [max_eq_right (le_of_lt ‹a < b›), BitVec.ofNat_toNat, BitVec.setWidth_eq]
  · rw [max_eq_left (not_lt.1 ‹¬ a < b›), BitVec.ofNat_toNat, BitVec.setWidth_eq]

/-- MAX_RESIDENCE becomes the greater of the two (R144). -/
theorem offerResidence_eq (s : State) (src : Fin 32) (residence : Counter) :
    s.offerResidence src residence = s.setSrcCount src { s.srcCount src with
      maxResidence := BitVec.ofNat 32 (max (s.srcCount src).maxResidence.toNat residence.toNat) } := by
  rw [State.offerResidence, ite_lt_eq_ofNat_max]

/-- The measurement in terms of the state before it: the counts made first move neither the extremes nor the residence (R150). -/
theorem measure_eq (s : State) (r : Outstanding) (isError : Bool) :
    let counted := (s.countClass r.cls .completions).countClass r.cls (.bin (binOf (s.cls r.cls).edges (s.latency r)))
    let extremes := counted.setClsCount r.cls { counted.clsCount r.cls with
      minLatency := min (s.clsCount r.cls).minLatency (s.latency r), maxLatency := max (s.clsCount r.cls).maxLatency (s.latency r) }
    let measured := extremes.setSrcCount r.source { s.srcCount r.source with
      maxResidence := BitVec.ofNat 32 (max (s.srcCount r.source).maxResidence.toNat (s.timeBase - r.arrival).toNat) }
    s.measure r isError = if isError then measured.countClass r.cls .memErrors else measured := by
  intro counted extremes measured
  have hextremes : (counted.clsCount r.cls).extremes (s.latency r) = { counted.clsCount r.cls with
      minLatency := min (s.clsCount r.cls).minLatency (s.latency r)
      maxLatency := max (s.clsCount r.cls).maxLatency (s.latency r) } := by
    simp only [ClassCounts.extremes, counted, countClass_extremes]
  have hsource : extremes.srcCount r.source = s.srcCount r.source := by simp [extremes, counted]
  have hmeasured : (counted.setClsCount r.cls ((counted.clsCount r.cls).extremes (s.latency r))).offerResidence r.source
      (s.timeBase - r.arrival) = measured := by
    rw [hextremes, offerResidence_eq, hsource]
  exact congrArg (fun x : State => if isError then x.countClass r.cls .memErrors else x) hmeasured

/-! ### DOWNSTREAM_COMPLETION (R128 to R133) -/

section completion

variable {header : BitVec 32} {data : List Beat} {s : State} {r : Outstanding}

theorem exec_downstreamCompletion_of_high (hr : s.resetN = .high) :
    exec (.downstreamCompletion header data) s = .next (s.matchCompletion (DCompletion.ofMessage header data)) :=
  if_neg (by simp [hr])

theorem matchCompletion_of_active {m : DCompletion} (h : s.entry m.tag = .active r) :
    s.matchCompletion m = s.completeActive m.tag r m := by
  simp only [State.matchCompletion, h]

theorem matchCompletion_of_orphaned {m : DCompletion} (h : s.entry m.tag = .orphaned r) :
    s.matchCompletion m = s.completeLate m.tag r := by
  simp only [State.matchCompletion, h]

theorem matchCompletion_of_free {m : DCompletion} (h : s.entry m.tag = .free) : s.matchCompletion m = s.completeStray m.tag := by
  simp only [State.matchCompletion, h]

end completion

/-- Settles O19: the answer is the one of R129's table, and neither it nor the credit nor the entry moves anything that the measurement
reads. -/
theorem completionAnswersActiveEntry : Obligations.CompletionAnswersActiveEntry := by
  intro header data s r m c good answer latency s1 s2 s3 s4 hr he
  have hanswer : answerOf r m = (answer.status, answer.data) := answerOf_eq r m
  have hcomplete : s.completeActive m.tag r m = s1.measure r (answer.status = .memError) := by
    rw [State.completeActive, hanswer]
    rfl
  have hedges : (s1.cls c).edges = (s.cls c).edges := by simp [s1]
  have hmeasure (isError : Bool) : s1.measure r isError = if isError then s4.countClass c .memErrors else s4 := by
    have hlatency : s1.latency r = latency := rfl
    have hcounts : s1.clsCount c = s.clsCount c := rfl
    have hsource : s1.srcCount r.source = s.srcCount r.source := rfl
    have htime : s1.timeBase = s.timeBase := rfl
    rw [measure_eq, hlatency, hedges, hcounts, hsource, htime]
  rw [exec_downstreamCompletion_of_high hr, matchCompletion_of_active he, hcomplete, hmeasure]
  by_cases hgood : good
  · have hstatus : answer.status = .ok := if_pos hgood
    rw [hstatus, if_pos hgood, if_neg (by decide)]
  · have hstatus : answer.status = .memError := if_neg hgood
    rw [hstatus, if_neg hgood, if_pos (decide_eq_true rfl)]

/-- Settles O20: the entry alone decides, and RESET_N low stops the completion before the match. -/
theorem completionIsLateOrStray : Obligations.CompletionIsLateOrStray := by
  intro header data s m
  refine ⟨fun r hr he => ?_, fun hr he => ⟨?_, rfl, rfl⟩, fun hr => exec_of_resetN_low hr rfl⟩
  · rw [exec_downstreamCompletion_of_high hr, matchCompletion_of_orphaned he]
    rfl
  · rw [exec_downstreamCompletion_of_high hr, matchCompletion_of_free he]
    rfl

/-! ### RESPONSE_TIMEOUT (R126, R134) -/

theorem exec_responseTimeout_of_due {s : State} {d : Fin 64} {r : Outstanding} (hr : s.resetN = .high) (he : s.entry d = .active r)
    (hdue : s.responseDue d = true) : exec (.responseTimeout d) s = .next (s.timeOut d r) := by
  simp only [exec, execResponseTimeout, hr, hdue, he, and_self, if_true]

theorem exec_responseTimeout_of_not_due {s : State} {d : Fin 64} (h : ¬ s.responseDue d = true) :
    exec (.responseTimeout d) s = .next s :=
  if_neg fun hdue => h hdue.2

/-- Settles O21: an entry is due when it is ACTIVE and as many ticks have passed as its due time lies after its dispatch. -/
theorem responseTimeoutOrphansEntry : Obligations.ResponseTimeoutOrphansEntry := by
  intro d s hr
  refine ⟨fun r due he hdue hreached => ?_, fun hshort => exec_responseTimeout_of_not_due fun hdue => ?_⟩
  · rw [exec_responseTimeout_of_due hr he ((responseDue_iff s d).2 ⟨r, due, he, hdue, hreached⟩)]
    rfl
  · obtain ⟨r, due, he, hdue, hreached⟩ := (responseDue_iff s d).1 hdue
    exact not_lt.2 hreached (hshort r due he hdue)

/-! ### DOWNSTREAM_DOWN (R113, R136) -/

theorem exec_downstreamDown_of_high {s : State} (hr : s.resetN = .high) (hd : s.dnRdy = .high) :
    exec .downstreamDown s = .next (s.dropDownstream.raise (.downstreamDown s.activeCount s.orphanCount)) :=
  if_neg (by simp [hr, hd])

/-- While the part treats DN_RDY as low, no class is eligible, so none is granted (R113, R114). -/
theorem winner_of_dnRdy_low {s : State} (h : s.dnRdy = .low) : s.winner = none := by
  refine winner_of_none fun c hc => ?_
  obtain ⟨-, -, -, hd, -⟩ := (eligible_iff s c).1 hc
  rw [h] at hd; cases hd

/-- Settles O8: the entries and credits are dropped, the event that is raised then writes the event queue alone, and with DN_RDY low no
class is granted. -/
theorem downstreamDownAbortsAndFrees : Obligations.DownstreamDownAbortsAndFrees := by
  intro s hr hd
  refine ⟨_, exec_downstreamDown_of_high hr hd, ?_⟩
  generalize Event.downstreamDown s.activeCount s.orphanCount = e
  refine ⟨?_, fun d => by simp, fun c => by simp, exec_grant_of_none (winner_of_dnRdy_low ?_)⟩
  · have hevq : (s.dropDownstream.raise e).evq = (s.raise e).evq := raise_evq_congr e rfl rfl rfl
    rw [← hevq, raise_eq]
    rfl
  · simp [State.dropDownstream]

end Sys2Proof.Machine
end

section
/-! The latency histograms (R148 to R151). What every command does to the histogram of a class is one of four things: nothing, a measured
completion, a clear over the edges it has, a clear over edges that are new and legal. Each of them keeps COMPLETIONS the sum of the bins. -/

namespace Sys2Proof.Machine

/-! ### The histogram of a class -/

/-- The edges of a class and the counts that its service latencies make (R148, R149). -/
structure Histogram where
  edges : Vector Nat 7
  completions : Counter
  bins : Vector Counter 8
  minLatency : Nat
  maxLatency : Nat

/-- The part of a class's counter group that its latencies make, over its edges. -/
def Histogram.of (edges : Vector Nat 7) (k : ClassCounts) : Histogram := ⟨edges, k.completions, k.bins, k.minLatency, k.maxLatency⟩

def State.histogram (s : State) (c : Fin 4) : Histogram := .of (s.cls c).edges (s.clsCount c)

namespace Histogram

/-- R148, R149 and R150 at one histogram. -/
def Law (h : Histogram) : Prop :=
  h.completions = h.bins.toList.sum ∧ edgesLegal h.edges = true ∧
    (h.minLatency ≤ h.maxLatency ∨ (h.minLatency = 65535 ∧ h.maxLatency = 0))

/-- A histogram that has counted nothing (R149, R153). -/
def empty (edges : Vector Nat 7) : Histogram := .of edges .cleared

/-- A completion of this latency counted (R148 to R150). -/
def measured (h : Histogram) (latency : Nat) : Histogram where
  edges := h.edges
  completions := h.completions + 1
  bins := h.bins.set (binOf h.edges latency) (h.bins[binOf h.edges latency] + 1)
  minLatency := min h.minLatency latency
  maxLatency := max h.maxLatency latency

/-- What a command can do to a histogram. -/
inductive Step (h : Histogram) : Histogram → Prop
  | same : Step h h
  /-- A completion for an ACTIVE entry of the class (R150). -/
  | measured (latency : Nat) : Step h (h.measured latency)
  /-- COUNTERS_READ with the clear flag (R153). -/
  | cleared : Step h (empty h.edges)
  /-- CLASS_WRITE with other edges, and POWER_ON_RESET (R151, R154). -/
  | replaced (edges : Vector Nat 7) (legal : edgesLegal edges = true) : Step h (empty edges)

/-- One more in one bin is one more in all. -/
theorem sum_set_add_one (bins : Vector Counter 8) (b : Fin 8) : (bins.set b (bins[b] + 1)).toList.sum = bins.toList.sum + 1 := by
  rw [Vector.toList_set, List.sum_set']
  simp [add_comm]

theorem measured_law {h : Histogram} (hh : h.Law) (latency : Nat) : (h.measured latency).Law := by
  obtain ⟨hsum, hedges, -⟩ := hh
  refine ⟨?_, hedges, .inl ((min_le_right _ _).trans (le_max_right _ _))⟩
  rw [measured, sum_set_add_one, hsum]

theorem empty_law {edges : Vector Nat 7} (legal : edgesLegal edges = true) : (empty edges).Law :=
  ⟨show (0 : Counter) = (Vector.replicate 8 0).toList.sum by decide, legal, .inr ⟨rfl, rfl⟩⟩

theorem Step.law {a b : Histogram} (h : a.Step b) (ha : a.Law) : b.Law := by
  cases h with
  | same => exact ha
  | measured latency => exact measured_law ha latency
  | cleared => exact empty_law ha.2.1
  | replaced edges legal => exact empty_law legal

end Histogram

theorem histogramLaw_iff (s : State) : s.HistogramLaw ↔ ∀ c, (s.histogram c).Law := Iff.rfl

/-! ### Operations that leave the histograms alone -/

/-- What writes neither a class nor a counter group of a class leaves the histograms alone. -/
theorem histogram_of_frame {s t : State} (h : t.classes = s.classes ∧ t.clsCounts = s.clsCounts) : t.histogram = s.histogram := by
  obtain ⟨hclasses, hcounts⟩ := h
  funext c
  simp only [State.histogram, State.cls, State.clsCount, hclasses, hcounts]

/-- A class written with the edges it has. -/
theorem setClass_histogram {s : State} {c : Fin 4} {r : ClassRec} (h : r.edges = (s.cls c).edges) :
    (s.setClass c r).histogram = s.histogram := by
  funext i
  simp only [State.histogram, State.setClass_cls, State.setClass_clsCount]
  split
  · rw [h, ‹i = c›]
  · rfl

/-- All classes written with the edges they have. -/
theorem histogram_of_edges {s t : State} (hedges : ∀ c, (t.cls c).edges = (s.cls c).edges) (hcounts : t.clsCounts = s.clsCounts) :
    t.histogram = s.histogram := by
  funext c
  simp only [State.histogram, State.clsCount, hedges, hcounts]

/-- TIMEOUTS, LATE and MEM_ERRORS stand outside the histogram (R145). -/
theorem countClass_histogram (s : State) (c : Fin 4) {k : ClassCounter} (hk : ∀ e x v, Histogram.of e (x.put k v) = .of e x) :
    (s.countClass c k).histogram = s.histogram := by
  have hcls (i : Fin 4) : (s.countClass c k).cls i = s.cls i := by simp
  funext i
  simp only [State.histogram, hcls, State.countClass_clsCount]
  split
  · rw [hk, ‹i = c›]
  · rfl

theorem raise_histogram (s : State) (e : Event) : (s.raise e).histogram = s.histogram := histogram_of_frame (by simp)

theorem returnCredit_histogram (s : State) (c : Fin 4) : (s.returnCredit c).histogram = s.histogram := setClass_histogram rfl

theorem grantHead_histogram (s : State) (c : Fin 4) (r : StoredReq) (rest : List StoredReq) (d : Fin 64) :
    (s.grantHead c r rest d).histogram = s.histogram :=
  setClass_histogram (s := (s.setQueue c rest).setEntry d (.active (s.entryFor c r))) rfl

theorem completeLate_histogram (s : State) (d : Fin 64) (r : Outstanding) : (s.completeLate d r).histogram = s.histogram := by
  rw [State.completeLate, raise_histogram, countClass_histogram _ _ fun _ _ _ => rfl]
  exact returnCredit_histogram s r.cls

theorem timeOut_histogram (s : State) (d : Fin 64) (r : Outstanding) : (s.timeOut d r).histogram = s.histogram := by
  rw [State.timeOut, raise_histogram, countClass_histogram _ _ fun _ _ _ => rfl]
  rfl

theorem placeArrival_histogram (s : State) (r : StoredReq) : (s.placeArrival r).histogram = s.histogram := by
  refine histogram_of_frame ?_
  simp only [State.placeArrival, State.holdRequest]
  repeat' split
  all_goals simp

theorem decideArrival_histogram (s : State) (q : Request) (k : Kind) (tag : Fin 16) :
    (s.decideArrival q k tag).histogram = s.histogram := by
  have hrefuse (reason : Reason) : (s.refuse q.source tag reason).histogram = s.histogram := histogram_of_frame (by simp)
  unfold State.decideArrival
  repeat' split
  any_goals exact hrefuse _
  all_goals exact placeArrival_histogram s _

theorem refuseMalformed_histogram (s : State) (src : Fin 32) (tag : Fin 64) : (s.refuseMalformed src tag).histogram = s.histogram :=
  histogram_of_frame (by simp [State.refuseMalformed])

/-- The four ways a take goes (R5, R7 to R10). -/
theorem takeRequest_histogram (s : State) (q : Request) : (s.takeRequest q).histogram = s.histogram := by
  simp only [State.takeRequest]
  repeat' split
  · exact refuseMalformed_histogram _ _ _
  · exact histogram_of_frame (by simp [State.dropDuplicate])
  · exact refuseMalformed_histogram _ _ _
  · exact refuseMalformed_histogram _ _ _
  · rw [decideArrival_histogram]
    exact histogram_of_frame (by simp)

theorem pinChange_histogram (s : State) (n : Fin 4) (level : Level) : (s.pinChange n level).histogram = s.histogram := by
  refine histogram_of_frame ?_
  simp only [State.pinChange]
  repeat' split
  all_goals simp

theorem writeLine_histogram (s : State) (n : Fin 4) (edge : EdgeSetting) (filter : Nat) :
    (s.writeLine n edge filter).histogram = s.histogram := by
  refine histogram_of_frame ?_
  simp only [State.writeLine]
  repeat' split
  all_goals simp

theorem disableSource_histogram (s : State) (src : Fin 32) : (s.disableSource src).histogram = s.histogram := by
  refine histogram_of_frame ?_
  by_cases hp : (s.contract src).state = .paced
  · rw [disableSource_of_paced hp, disablePaced_eq, (releaseList_spec src _ _).1]
    simp [State.halt]
  · rw [disableSource_of_not_paced hp]
    exact ⟨rfl, rfl⟩

theorem restartContracts_histogram (s : State) (l : List (Fin 32)) : (s.restartContracts l).histogram = s.histogram := by
  induction l generalizing s with
  | nil => rfl
  | cons src rest ih =>
    rw [State.restartContracts, ih, State.restartContract]
    split
    · exact histogram_of_frame (by simp)
    · rfl

/-! ### Operations that move a histogram -/

/-- What a command does to the histograms of all classes. -/
def State.HistogramStep (s t : State) : Prop := ∀ c, (s.histogram c).Step (t.histogram c)

theorem histogramStep_of_eq {s t : State} (h : t.histogram = s.histogram) : s.HistogramStep t := fun c => by
  rw [h]
  exact .same

/-- The measurement counts one latency in the histogram of its class, over the edges that class has (R150). -/
theorem measure_histogramStep (s : State) (r : Outstanding) (isError : Bool) : s.HistogramStep (s.measure r isError) := by
  have herror (u : State) : (if isError then u.countClass r.cls .memErrors else u).histogram = u.histogram := by
    cases isError with
    | false => rfl
    | true => exact countClass_histogram u r.cls fun _ _ _ => rfl
  intro i
  simp only [State.measure, herror]
  by_cases hi : i = r.cls
  · rw [hi]
    convert Histogram.Step.measured (s.latency r) using 1
    simp [State.histogram, State.offerResidence, State.countClass_clsCount, ClassCounts.get, ClassCounts.put,
      ClassCounts.extremes, Histogram.of, Histogram.measured]
  · convert Histogram.Step.same using 1
    simp [State.histogram, State.offerResidence, State.countClass_clsCount, hi]

theorem completeActive_histogramStep (s : State) (d : Fin 64) (r : Outstanding) (m : DCompletion) :
    s.HistogramStep (s.completeActive d r m) := by
  have hback (x : Completion) : (((s.joinReturn x).returnCredit r.cls).setEntry d .free).histogram = s.histogram :=
    returnCredit_histogram (s.joinReturn x) r.cls
  intro i
  rw [← hback]
  exact measure_histogramStep _ r _ i

/-- Each entry has its own way to count a completion (R128). -/
theorem matchCompletion_histogramStep (s : State) (m : DCompletion) : s.HistogramStep (s.matchCompletion m) := by
  unfold State.matchCompletion
  split
  · exact completeActive_histogramStep s _ _ m
  · exact histogramStep_of_eq (completeLate_histogram s _ _)
  · exact histogramStep_of_eq (histogram_of_frame (by simp [State.completeStray]))

/-- CLASS_WRITE leaves the histogram alone with the edges it has, and begins it anew with others (R151). -/
theorem writeClass_histogramStep (s : State) (c : Fin 4) (credit limit : Nat) {edges : Vector Nat 7} (legal : edgesLegal edges = true) :
    s.HistogramStep (s.writeClass c credit limit edges) := by
  simp only [State.writeClass]
  split
  · exact histogramStep_of_eq (setClass_histogram (Eq.symm ‹_›))
  · intro i
    by_cases hi : i = c
    · rw [hi]
      convert Histogram.Step.replaced edges legal using 1
      rw [State.histogram, State.setClsCount_cls, State.setClass_cls_self, State.setClsCount_clsCount_self]
      rfl
    · convert Histogram.Step.same using 1
      simp [State.histogram, hi]

theorem clearGroup_histogramStep (s : State) (g : Group) : s.HistogramStep (s.clearGroup g) := by
  cases g with
  | source src => exact histogramStep_of_eq rfl
  | global => exact histogramStep_of_eq rfl
  | cls c =>
    intro i
    by_cases hi : i = c
    · rw [hi]
      convert Histogram.Step.cleared using 1
      rw [State.clearGroup, State.histogram, State.setClsCount_clsCount_self]
      rfl
    · convert Histogram.Step.same using 1
      simp [State.clearGroup, State.histogram, hi]

/-! ### The management port -/

/-- A management command does to the histograms what its answer does (R169). -/
theorem manage_histogramStep {s t : State} {opcode : Byte} {a : Answer} (ha : s.HistogramStep a.state)
    (h : s.manage opcode a = .next t) : s.HistogramStep t := by
  by_cases hl : s.listening
  · rw [manage_listening hl] at h
    cases h
    exact ha
  · rw [manage_not_listening hl] at h
    cases h
    exact histogramStep_of_eq rfl

/-- A command with its length judged first (R173). -/
theorem manage_judged_histogramStep {s t : State} {opcode : Byte} {f : Frame} {a : Answer} (ha : s.HistogramStep a.state)
    (h : s.manage opcode (judged f s a) = .next t) : s.HistogramStep t := by
  refine manage_histogramStep ?_ h
  unfold judged
  split
  · exact histogramStep_of_eq rfl
  · exact ha

/-- A command whose effect leaves the histograms alone. -/
theorem manage_histogramStep_of_eq {s t : State} {opcode : Byte} {f : Frame} {a : Answer} (ha : a.state.histogram = s.histogram)
    (h : s.manage opcode (judged f s a) = .next t) : s.HistogramStep t :=
  manage_judged_histogramStep (histogramStep_of_eq ha) h

/-- A command that only reads. -/
theorem manage_histogramStep_of_read {s t : State} {opcode : Byte} {f : Frame} {a : Answer} (ha : a.state = s)
    (h : s.manage opcode (judged f s a) = .next t) : s.HistogramStep t :=
  manage_histogramStep_of_eq (congrArg State.histogram ha) h

theorem answerSource_histogram {s : State} {effect : State → Fin 32 → State} (he : ∀ src, (effect s src).histogram = s.histogram)
    (cmd : SourceCmd) (f : Frame) : (answerSource cmd effect f s).state.histogram = s.histogram := by
  unfold answerSource
  repeat' split
  any_goals rfl
  exact he _

theorem answerContractWrite_histogram (s : State) (f : Frame) : (answerContractWrite f s).state.histogram = s.histogram := by
  unfold answerContractWrite
  repeat' split
  all_goals rfl

theorem answerLineWrite_histogram (s : State) (f : Frame) : (answerLineWrite f s).state.histogram = s.histogram := by
  unfold answerLineWrite
  repeat' split
  any_goals rfl
  exact writeLine_histogram s _ _ _

theorem answerTrafficReset_histogram (s : State) (f : Frame) : (answerTrafficReset f s).state.histogram = s.histogram := by
  unfold answerTrafficReset
  split
  · rfl
  · dsimp only
    exact restartContracts_histogram s.abortTraffic _

theorem answerStatus_histogram (s : State) (f : Frame) : (answerStatus f s).state.histogram = s.histogram := by
  unfold answerStatus
  split <;> rfl

theorem answerGlobalWrite_histogram (s : State) (f : Frame) : (answerGlobalWrite f s).state.histogram = s.histogram := by
  unfold answerGlobalWrite
  repeat' split
  all_goals rfl

theorem answerRegionWrite_histogram (s : State) (f : Frame) : (answerRegionWrite f s).state.histogram = s.histogram := by
  unfold answerRegionWrite
  repeat' split
  all_goals rfl

theorem answerEventRelease_histogram (s : State) (f : Frame) : (answerEventRelease f s).state.histogram = s.histogram := by
  unfold answerEventRelease
  repeat' split
  all_goals rfl

/-- Edges that CLASS_WRITE writes have passed its check (R121 step 4). -/
theorem answerClassWrite_histogramStep (s : State) (f : Frame) : s.HistogramStep (answerClassWrite f s).state := by
  unfold answerClassWrite
  repeat' split
  any_goals exact histogramStep_of_eq rfl
  all_goals exact writeClass_histogramStep s _ _ _ (by simpa using ‹¬ (!edgesLegal (classEdges f)) = true›)

theorem answerCounters_histogramStep {s : State} {after : State → Group → State} (ha : ∀ g, s.HistogramStep (after s g)) (f : Frame) :
    s.HistogramStep (answerCounters after f s).state := by
  unfold answerCounters
  repeat' split
  any_goals exact histogramStep_of_eq rfl
  exact ha _

/-- The commands of the management port. -/
theorem exec_management_histogramStep {c : Instr} {s t : State} (hc : c.frame?.isSome = true) (h : exec c s = .next t) :
    s.HistogramStep t := by
  have hsource {effect : State → Fin 32 → State} (cmd : SourceCmd) (f : Frame)
      (he : ∀ src, (effect s src).classes = s.classes ∧ (effect s src).clsCounts = s.clsCounts) :
      (answerSource cmd effect f s).state.histogram = s.histogram :=
    answerSource_histogram (fun src => histogram_of_frame (he src)) cmd f
  cases c with
  | enable f => exact manage_histogramStep_of_eq (hsource _ f fun _ => by simp [State.enableSource]) h
  | disable f => exact manage_histogramStep_of_eq (answerSource_histogram (disableSource_histogram s) _ f) h
  | bar f => exact manage_histogramStep_of_eq (hsource _ f fun _ => by simp [State.barSource]) h
  | unbar f => exact manage_histogramStep_of_eq (hsource _ f fun _ => ⟨rfl, rfl⟩) h
  | arm f => exact manage_histogramStep_of_eq (hsource _ f fun _ => by simp [State.armSource]) h
  | contractWrite f => exact manage_histogramStep_of_eq (answerContractWrite_histogram s f) h
  | lineWrite f => exact manage_histogramStep_of_eq (answerLineWrite_histogram s f) h
  | trafficReset f => exact manage_histogramStep_of_eq (answerTrafficReset_histogram s f) h
  | classWrite f => exact manage_judged_histogramStep (answerClassWrite_histogramStep s f) h
  | countersRead f => exact manage_judged_histogramStep (answerCounters_histogramStep (fun _ => histogramStep_of_eq rfl) f) h
  | countersReadClear f => exact manage_judged_histogramStep (answerCounters_histogramStep (clearGroup_histogramStep s) f) h
  | status f => exact manage_histogramStep_of_eq (answerStatus_histogram s f) h
  | globalWrite f => exact manage_histogramStep_of_eq (answerGlobalWrite_histogram s f) h
  | regionWrite f => exact manage_histogramStep_of_eq (answerRegionWrite_histogram s f) h
  | eventRelease f => exact manage_histogramStep_of_eq (answerEventRelease_histogram s f) h
  | unknownOpcode o f => exact manage_histogramStep (histogramStep_of_eq rfl) h
  | identify f => exact manage_histogramStep_of_read (answerIdentify_state f s) h
  | timeRead f => exact manage_histogramStep_of_read (answerTimeRead_state f s) h
  | globalRead f => exact manage_histogramStep_of_read (answerGlobalRead_state f s) h
  | eventRead f => exact manage_histogramStep_of_read (answerEventRead_state f s) h
  | contractRead f => exact manage_histogramStep_of_read (answerContractRead_state f s) h
  | holdRead f => exact manage_histogramStep_of_read (answerHoldRead_state f s) h
  | regionRead f => exact manage_histogramStep_of_read (answerRegionRead_state f s) h
  | classRead f => exact manage_histogramStep_of_read (answerClassRead_state f s) h
  | lineRead f => exact manage_histogramStep_of_read (answerLineRead_state f s) h
  | _ => cases hc

end Sys2Proof.Machine
end

section
/-! The step lemma of R148 to R150: what each command does to the histograms, and the law from that. -/

namespace Sys2Proof.Machine

/-! ### The part's own events -/

theorem execGrant_histogram {s t : State} (h : execGrant s = .next t) : t.histogram = s.histogram := by
  unfold execGrant at h
  repeat' split at h
  all_goals cases h
  · exact grantHead_histogram s _ _ _ _
  all_goals rfl

theorem execResponseTimeout_histogram {s t : State} {d : Fin 64} (h : execResponseTimeout d s = .next t) :
    t.histogram = s.histogram := by
  unfold execResponseTimeout at h
  repeat' split at h
  all_goals cases h
  · exact timeOut_histogram s d _
  all_goals rfl

theorem execTransitionSettles_histogram {s t : State} {n : Fin 4} (h : execTransitionSettles n s = .next t) :
    t.histogram = s.histogram := by
  unfold execTransitionSettles at h
  repeat' split at h
  all_goals cases h
  · exact histogram_of_frame (by simp)
  all_goals rfl

theorem execTriggerPinChange_histogram {s t : State} {n : Fin 4} {level : Level} (h : execTriggerPinChange n level s = .next t) :
    t.histogram = s.histogram := by
  unfold execTriggerPinChange at h
  repeat' split at h
  all_goals cases h
  · rfl
  · rfl
  · exact pinChange_histogram s n level

theorem execHandOver_histogram {s t : State} (h : execHandOver s = .next t) : t.histogram = s.histogram := by
  unfold execHandOver at h
  split at h <;> cases h
  · rfl
  · rw [handOverHead_eq]
    rfl

theorem execUpstreamReset_histogram {s t : State} (h : execUpstreamReset s = .next t) : t.histogram = s.histogram := by
  unfold execUpstreamReset at h
  repeat' split at h
  all_goals cases h
  · rfl
  · rfl
  · rw [raise_histogram]
    rfl

theorem execCommandCut_histogram {s t : State} {bytes : List Byte} (h : execCommandCut bytes s = .next t) :
    t.histogram = s.histogram := by
  unfold execCommandCut at h
  repeat' split at h
  all_goals
    cases h
    rfl

theorem execResponseCut_histogram {s t : State} {n : Nat} (h : execResponseCut n s = .next t) : t.histogram = s.histogram := by
  unfold execResponseCut at h
  repeat' split at h
  all_goals
    cases h
    rfl

/-- DN_RDY going low zeroes the credits and no edge or count (R113, R136). -/
theorem dropDownstream_histogram (s : State) : s.dropDownstream.histogram = s.histogram :=
  histogram_of_edges (fun c => by rw [dropDownstream_cls]) rfl

/-- DN_RDY going high loads the credits and no edge or count (R112). -/
theorem loadCredits_histogram (s : State) : s.loadCredits.histogram = s.histogram :=
  histogram_of_edges (fun c => by rw [loadCredits_cls, ClassRec.load]) rfl

/-- POWER_ON_RESET empties every histogram over the edges of R154. -/
theorem powerOn_histogram (upRdy dnRdyPin : Level) (trig : Vector Level 4) (port : Port) (pending : List Instr)
    (wire : List PortEdge) (choices : Nat) (c : Fin 4) :
    (State.powerOn upRdy dnRdyPin trig port pending wire choices).histogram c = .empty ClassRec.powerOn.edges := by
  rw [State.histogram, State.powerOn_cls, State.powerOn_clsCount]
  rfl

/-! ### Every command -/

/-- An outcome chosen by a test leaves the histograms alone where both of its ways do. -/
theorem ite_histogram {p : Prop} [Decidable p] {s t u v : State}
    (h : (if p then (.next u : Host.Outcome State Fault Refusal) else .next v) = .next t) (hu : u.histogram = s.histogram)
    (hv : v.histogram = s.histogram) : t.histogram = s.histogram := by
  split at h <;> cases h
  · exact hu
  · exact hv

theorem exec_histogramStep {c : Instr} {s t : State} (h : exec c s = .next t) : s.HistogramStep t := by
  have hsame (hk : t.histogram = s.histogram) : s.HistogramStep t := histogramStep_of_eq hk
  cases c with
  | powerOnReset mcsN =>
    cases h
    intro c
    rw [powerOn_histogram]
    exact .replaced _ (by decide)
  | resetNFall => exact hsame (ite_histogram h rfl rfl)
  | upstreamReset => exact hsame (execUpstreamReset_histogram h)
  | upRdyRise =>
    cases h
    exact hsame rfl
  | downstreamDown => exact hsame (ite_histogram h rfl ((raise_histogram _ _).trans (dropDownstream_histogram s)))
  | downstreamUp => exact hsame (ite_histogram h rfl ((raise_histogram _ _).trans (loadCredits_histogram s)))
  | take header data => exact hsame (ite_histogram h (takeRequest_histogram s _) rfl)
  | handOver => exact hsame (execHandOver_histogram h)
  | grant => exact hsame (execGrant_histogram h)
  | downstreamCompletion header data =>
    change (if s.resetN = .low then _ else _) = _ at h
    split at h <;> cases h
    · exact hsame rfl
    · exact matchCompletion_histogramStep s _
  | responseTimeout d => exact hsame (execResponseTimeout_histogram h)
  | boundary src => exact hsame (ite_histogram h (histogram_of_frame (by simp)) rfl)
  | headExpiry src => exact hsame (ite_histogram h (histogram_of_frame (by simp)) rfl)
  | windowEnd src => exact hsame (ite_histogram h (histogram_of_frame (by simp)) rfl)
  | triggerPinChange n level => exact hsame (execTriggerPinChange_histogram h)
  | transitionSettles n => exact hsame (execTransitionSettles_histogram h)
  | commandCut bytes => exact hsame (execCommandCut_histogram h)
  | responseCut n => exact hsame (execResponseCut_histogram h)
  | _ => exact exec_management_histogramStep rfl h

/-- A pin change on the management port and a tick do nothing to the histograms. -/
theorem step_histogramStep {s t : State} (h : step s = .next t) : s.HistogramStep t := by
  obtain ⟨u, hu, h⟩ := step_cases h
  have hsame : u.histogram = s.histogram := by
    rw [hu]
    rfl
  intro c
  rw [← hsame]
  obtain ⟨_, h⟩ | rfl | rfl := h
  · exact exec_histogramStep h c
  · rw [tick_eq]
    exact .same
  · exact .same

/-- Settles O56: each of the four things that a step can do to a histogram keeps its law. -/
theorem stepKeepsHistogramLaw : Obligations.StepKeepsHistogramLaw := by
  intro s t hs h
  rw [histogramLaw_iff] at hs ⊢
  exact fun c => (step_histogramStep h c).law (hs c)

end Sys2Proof.Machine
end

section
/-! The Measurement Unit's counters: an increment with its wrap, the bin of a latency, COUNTERS_READ; the statements about single operations
of chapter 8. -/

namespace Sys2Proof.Machine

/-! ### Increments (R147) -/

/-- COUNTER_WRAP changes the events of the state it is raised in, as they stood before the count (R147, R157). -/
theorem raiseWrap_evq {s u : State} (id : CounterId) (v : Counter) (n : Nat) (he : u.evq = s.evq) (ht : u.timeBase = s.timeBase)
    (hg : u.globals = s.globals) :
    (u.raiseWrap id (wraps v n)).evq = if 2 ^ 32 ≤ v.toNat + n then (s.raise (.counterWrap id)).evq else s.evq := by
  simp only [State.raiseWrap, wraps, decide_eq_true_eq]
  split
  · exact raise_evq_congr _ he ht hg
  · exact he

/-- COUNTER_WRAP writes the event queue alone. -/
theorem raiseWrap_eq (s : State) (id : CounterId) (w : Bool) : s.raiseWrap id w = { s with evq := (s.raiseWrap id w).evq } := by
  unfold State.raiseWrap
  split
  · exact raise_eq s _
  · rfl

/-- A counter holds its value modulo 2^32. -/
theorem counter_add_toNat (v : Counter) (n : Nat) : (v + BitVec.ofNat 32 n).toNat = (v.toNat + n) % 2 ^ 32 := by
  simp

theorem countSource_eq (s : State) (src : Fin 32) (k : SourceCounter) (n : Nat) :
    s.countSource src k n = { s with srcCounts := (s.countSource src k n).srcCounts, evq := (s.countSource src k n).evq } := by
  rw [State.countSource, raiseWrap_eq]
  rfl

theorem countClass_eq (s : State) (c : Fin 4) (k : ClassCounter) :
    s.countClass c k = { s with clsCounts := (s.countClass c k).clsCounts, evq := (s.countClass c k).evq } := by
  rw [State.countClass, raiseWrap_eq]
  rfl

theorem countGlobal_eq (s : State) (k : GlobalCounter) :
    s.countGlobal k = { s with globCounts := (s.countGlobal k).globCounts, evq := (s.countGlobal k).evq } := by
  rw [State.countGlobal, raiseWrap_eq]

/-- Settles O49: the counter is put back raised by n modulo 2^32, and its wrap is judged on the value it had. -/
theorem countersWrapWithAnEvent : Obligations.CountersWrapWithAnEvent := by
  refine ⟨fun s src k n _ => ⟨?_, fun j hj => ?_, fun i hi => ?_, raiseWrap_evq _ _ _ rfl rfl rfl, countSource_eq s src k n⟩,
    fun s c k => ⟨?_, fun j hj => ?_, fun i hi => ?_, raiseWrap_evq _ _ _ rfl rfl rfl, countClass_eq s c k⟩,
    fun s k => ⟨?_, fun j hj => ?_, raiseWrap_evq _ _ _ rfl rfl rfl, countGlobal_eq s k⟩⟩
  · rw [State.countSource_srcCount, if_pos rfl, sourceCounts_get_put, counter_add_toNat]
  · rw [State.countSource_srcCount, if_pos rfl, sourceCounts_get_put_ne _ _ _ _ hj]
  · rw [State.countSource_srcCount, if_neg hi]
  · rw [State.countClass_clsCount, if_pos rfl, classCounts_get_put]
    exact counter_add_toNat _ 1
  · rw [State.countClass_clsCount, if_pos rfl, classCounts_get_put_ne _ _ _ _ hj]
  · rw [State.countClass_clsCount, if_neg hi]
  · rw [State.countGlobal_globCounts, globalCounts_get_put]
    exact counter_add_toNat _ 1
  · rw [State.countGlobal_globCounts, globalCounts_get_put_ne _ _ _ _ hj]

/-! ### The bin of a latency (R148) -/

/-- The first edge above a latency gives its bin. -/
theorem binOf_of_first {e : Vector Nat 7} {latency : Nat} {i : Fin 7} (h : latency < e[i]) (hlow : ∀ j < i, e[j] ≤ latency) :
    binOf e latency = i.castSucc := by
  rw [binOf, find_finRange_of_first (p := fun i => decide (latency < e[i])) (decide_eq_true h)
    fun j hj => by simpa using hlow j hj]

theorem binOf_of_none {e : Vector Nat 7} {latency : Nat} (h : ∀ i : Fin 7, e[i] ≤ latency) : binOf e latency = 7 := by
  have hnone : (List.finRange 7).find? (fun i => decide (latency < e[i])) = none := by simpa using h
  rw [binOf, hnone]

/-- A latency has a first edge above it, or none. -/
theorem binOf_cases (e : Vector Nat 7) (latency : Nat) :
    (∃ i : Fin 7, binOf e latency = i.castSucc ∧ latency < e[i] ∧ ∀ j < i, e[j] ≤ latency) ∨
      (binOf e latency = 7 ∧ ∀ i : Fin 7, e[i] ≤ latency) := by
  by_cases h : ∃ i : Fin 7, latency < e[i]
  · obtain ⟨i, hi, hmin⟩ := WellFounded.has_min wellFounded_lt {i : Fin 7 | latency < e[i]} h
    have hlow : ∀ j < i, e[j] ≤ latency := fun j hj => not_lt.1 fun hl => hmin j hl hj
    exact .inl ⟨i, binOf_of_first hi hlow, hi, hlow⟩
  · have hall : ∀ i : Fin 7, e[i] ≤ latency := by simpa using h
    exact .inr ⟨binOf_of_none hall, hall⟩

/-- The bin below edge `i` holds the latencies below that edge and not below any before it. -/
theorem binOf_eq_castSucc_iff (e : Vector Nat 7) (latency : Nat) (i : Fin 7) :
    binOf e latency = i.castSucc ↔ latency < e[i] ∧ ∀ j < i, e[j] ≤ latency := by
  refine ⟨fun h => ?_, fun ⟨hi, hlow⟩ => binOf_of_first hi hlow⟩
  obtain ⟨k, hk, hlt, hlow⟩ | ⟨h7, -⟩ := binOf_cases e latency
  · rw [← Fin.castSucc_injective 7 (hk.symm.trans h)]
    exact ⟨hlt, hlow⟩
  · exact absurd (h.symm.trans h7) (Fin.castSucc_lt_last i).ne

theorem binOf_eq_seven_iff (e : Vector Nat 7) (latency : Nat) : binOf e latency = 7 ↔ ∀ i : Fin 7, e[i] ≤ latency := by
  refine ⟨fun h => ?_, binOf_of_none⟩
  obtain ⟨k, hk, -⟩ | ⟨-, hall⟩ := binOf_cases e latency
  · exact absurd (hk.symm.trans h) (Fin.castSucc_lt_last k).ne
  · exact hall

/-- Settles O22: the bin is given by the first edge above the latency, and with ascending edges the edge before it is the highest of
those not above. -/
theorem latencyFallsInItsBin : Obligations.LatencyFallsInItsBin := by
  intro e latency hascending
  have hle {i j : Fin 7} (h : i ≤ j) : e[i] ≤ e[j] := by
    obtain rfl | hlt := h.eq_or_lt
    · exact le_rfl
    · exact (hascending i j hlt).le
  refine ⟨?_, fun i j hij => ?_, ?_⟩
  · refine (binOf_eq_castSucc_iff e latency 0).trans (and_iff_left fun j hj => ?_)
    exact absurd hj (Fin.not_lt_zero j)
  · rw [binOf_eq_castSucc_iff, and_comm]
    refine and_congr_left fun _ => ⟨fun hlow => hlow i (Fin.lt_def.2 (by omega)), fun hi k hk => ?_⟩
    exact (hle (Fin.le_def.2 (by have := Fin.lt_def.1 hk; omega))).trans hi
  · rw [binOf_eq_seven_iff]
    exact ⟨fun hall => hall 6, fun h6 i => (hle (Fin.le_last i)).trans h6⟩

/-! ### COUNTERS_READ (R152, R153) -/

/-- The eight bins one after the other. -/
theorem bins_toList (v : Vector Counter 8) : v.toList = [v[0], v[1], v[2], v[3], v[4], v[5], v[6], v[7]] := by
  refine List.ext_getElem (by simp) fun i hi _ => ?_
  rw [Vector.length_toList] at hi
  interval_cases i <;> rfl

section answerCounters

variable (after : State → Group → State) {f : Frame} (s : State)

theorem answerCounters_badLength (hl : f.len.toNat ≠ 2) : answerCounters after f s = refused .badLength s := by
  simp only [answerCounters, badLength_of_ne hl, if_true]

theorem answerCounters_badValue (hl : f.len.toNat = 2) (hv : 2 < f.u8 0 ∨ 1 < f.u8 1) :
    answerCounters after f s = refused .badValue s := by
  simp only [answerCounters, badLength_of_eq hl, Bool.false_eq_true, if_false, if_pos hv]

theorem answerCounters_badIndex (hl : f.len.toNat = 2) (hscope : f.u8 0 ≤ 2) (hflag : f.u8 1 ≤ 1)
    (hg : Group.of (f.u8 0) f.index.toNat = none) : answerCounters after f s = refused .badIndex s := by
  have hv : ¬ (2 < f.u8 0 ∨ 1 < f.u8 1) := by omega
  simp only [answerCounters, badLength_of_eq hl, Bool.false_eq_true, if_false, if_neg hv, hg]

theorem answerCounters_ok {g : Group} (hl : f.len.toNat = 2) (hscope : f.u8 0 ≤ 2) (hflag : f.u8 1 ≤ 1)
    (hg : Group.of (f.u8 0) f.index.toNat = some g) : answerCounters after f s = ⟨.ok, s.groupBytes g, after s g⟩ := by
  have hv : ¬ (2 < f.u8 0 ∨ 1 < f.u8 1) := by omega
  simp only [answerCounters, badLength_of_eq hl, Bool.false_eq_true, if_false, if_neg hv, hg]

end answerCounters

theorem group_of_source {scope index : Nat} {src : Fin 32} (hs : scope = 0) (hi : index = src.val) :
    Group.of scope index = some (.source src) := by
  simp only [Group.of, hs, indexBelow_eq_some src hi, Option.map_some]

theorem group_of_class {scope index : Nat} {c : Fin 4} (hs : scope = 1) (hi : index = c.val) :
    Group.of scope index = some (.cls c) := by
  simp only [Group.of, hs, indexBelow_eq_some c hi, Option.map_some]

theorem group_of_global {scope index : Nat} (hs : scope = 2) (hi : index = 0) : Group.of scope index = some .global := by
  simp only [Group.of, hs, hi, if_true]

/-- An index outside its scope's range names no group (R152). -/
theorem group_of_outOfRange {scope index : Nat} (h : scope = 0 ∧ 32 ≤ index ∨ scope = 1 ∧ 4 ≤ index ∨ scope = 2 ∧ index ≠ 0) :
    Group.of scope index = none := by
  obtain ⟨hs, hi⟩ | ⟨hs, hi⟩ | ⟨hs, hi⟩ := h
  · simp only [Group.of, hs, indexBelow_eq_none hi, Option.map_none]
  · simp only [Group.of, hs, indexBelow_eq_none hi, Option.map_none]
  · simp only [Group.of, hs, if_neg hi]

/-- Both rows of COUNTERS_READ make the same checks and differ in what they do after the snapshot (R152, R153). -/
theorem exec_countersRead_cases {f : Frame} {i : Instr} (h : i ∈ [Instr.countersRead f, .countersReadClear f]) :
    ∃ after, ∀ s, exec i s = s.manage 0x40#8 (judged f s (answerCounters after f s)) := by
  simp only [List.mem_cons, List.not_mem_nil, or_false] at h
  rcases h with rfl | rfl <;> exact ⟨_, fun _ => rfl⟩

section exec_counters

variable {f : Frame} {s : State} (h : s.listening) (hlen : f.len.toNat ≤ 48)
include h hlen

/-- Length, then scope and flag, then index are judged alike by both rows, and a refused command changes nothing (R152). -/
theorem exec_counters_refused {i : Instr} (hi : i ∈ [Instr.countersRead f, .countersReadClear f]) :
    (f.len.toNat ≠ 2 → exec i s = .next (s.answered 0x40#8 .badLength [])) ∧
    (f.len.toNat = 2 → 2 < f.u8 0 ∨ 1 < f.u8 1 → exec i s = .next (s.answered 0x40#8 .badValue [])) ∧
    (f.len.toNat = 2 → f.u8 1 ≤ 1 →
      (f.u8 0 = 0 ∧ 32 ≤ f.index.toNat ∨ f.u8 0 = 1 ∧ 4 ≤ f.index.toNat ∨ f.u8 0 = 2 ∧ f.index.toNat ≠ 0) →
      exec i s = .next (s.answered 0x40#8 .badIndex [])) := by
  obtain ⟨after, hexec⟩ := exec_countersRead_cases hi
  rw [hexec, judged_of_len_le s _ hlen, manage_listening h]
  refine ⟨fun hl => ?_, fun hl hv => ?_, fun hl hflag hindex => ?_⟩
  · rw [answerCounters_badLength after s hl]
    rfl
  · rw [answerCounters_badValue after s hl hv]
    rfl
  · rw [answerCounters_badIndex after s hl (by omega) hflag (group_of_outOfRange hindex)]
    rfl

/-- A group that is named is answered whole, and cleared where the flag says so (R152, R153). -/
theorem exec_counters_ok {g : Group} (hl : f.len.toNat = 2) (hscope : f.u8 0 ≤ 2)
    (hg : Group.of (f.u8 0) f.index.toNat = some g) :
    (f.u8 1 = 0 → exec (.countersRead f) s = .next (s.answered 0x40#8 .ok (s.groupBytes g))) ∧
    (f.u8 1 = 1 → exec (.countersReadClear f) s = .next ((s.clearGroup g).answered 0x40#8 .ok (s.groupBytes g))) := by
  rw [exec, exec, execCountersRead, execCountersReadClear, judged_of_len_le s _ hlen, judged_of_len_le s _ hlen,
    manage_listening h, manage_listening h]
  refine ⟨fun hflag => ?_, fun hflag => ?_⟩
  · rw [answerCounters_ok _ s hl hscope (by omega) hg]
  · rw [answerCounters_ok _ s hl hscope (by omega) hg]

end exec_counters

/-- Settles O33: scope and index name a group, and the bytes of a group are its members in the order of the layout. -/
theorem countersReadSnapshotsAndClears : Obligations.CountersReadSnapshotsAndClears := by
  intro f s h hlen sourceBytes classBytes globalBytes
  have hclass (k : ClassCounts) : k.bytes = classBytes k := by
    simp only [ClassCounts.bytes, classBytes, bins_toList, List.flatMap_cons, List.flatMap_nil, counterBytes, List.append_nil,
      List.append_assoc]
  refine ⟨fun i hi => exec_counters_refused h hlen hi, fun src hl hscope hi => ?_, fun c hl hscope hi => ?_, fun hl hscope hi => ?_⟩
  · exact exec_counters_ok h hlen hl (by omega) (group_of_source hscope hi)
  · rw [← hclass]
    exact exec_counters_ok h hlen hl (by omega) (group_of_class hscope hi)
  · exact exec_counters_ok h hlen hl (by omega) (group_of_global hscope hi)

end Sys2Proof.Machine
end

section
/-! The step lemma of R156, R161 and R162: the event queue loses its head, is emptied, or is offered records, and each keeps its law. -/

namespace Sys2Proof.Machine

/-! ### The queue -/

namespace EventQueue

/-- The queue once its head has gone, with the lost count taken (R164). -/
def headless (q : EventQueue) (rest : List EventRecord) : EventQueue := ⟨rest, q.nextSeq, 0⟩

theorem release_of_none_lost {q : EventQueue} (h : q.lost = 0) (time : Time) (rest : List EventRecord) :
    q.release time rest = q.headless rest := by
  rw [release, if_pos h, headless, ← h]

theorem release_of_lost {q : EventQueue} (h : q.lost ≠ 0) (time : Time) (rest : List EventRecord) :
    q.release time rest = (q.headless rest).join time (.overflow q.lost) :=
  if_neg h

/-- An empty queue that has lost nothing, whatever its next sequence (R21, R167). -/
theorem empty_law (nextSeq : BitVec 16) : (⟨[], nextSeq, 0⟩ : EventQueue).Law :=
  ⟨Nat.zero_le _, fun h => absurd rfl h, fun i => i.elim0⟩

/-- The sequences behind the head run on to the same next sequence. -/
theorem headless_law {q : EventQueue} {r : EventRecord} {rest : List EventRecord} (h : q.Law) (hq : q.records = r :: rest) :
    (q.headless rest).Law := by
  obtain ⟨records, nextSeq, lost⟩ := q
  obtain ⟨hroom, -, hseq⟩ := h
  cases hq
  refine ⟨Nat.le_of_succ_le hroom, fun hlost => absurd rfl hlost, fun ⟨i, hi⟩ => ?_⟩
  simpa [headless] using hseq ⟨i + 1, Nat.succ_lt_succ hi⟩

/-- A release makes the room that OVERFLOW takes (R162, R164). -/
theorem release_law {q : EventQueue} {r : EventRecord} {rest : List EventRecord} (h : q.Law) (hq : q.records = r :: rest)
    (time : Time) : (q.release time rest).Law := by
  have hlaw := headless_law h hq
  by_cases hlost : q.lost = 0
  · rw [release_of_none_lost hlost]
    exact hlaw
  · have hroom : rest.length < Config.eventCapacity := by simpa [hq] using h.1
    rw [release_of_lost hlost]
    exact join_law hlaw hroom time _

end EventQueue

namespace State

/-! ### Hold lists and contracts -/

theorem takeWindowEnd_eventLaw {s : State} (hs : s.EventLaw) (src : Fin 32) : (s.takeWindowEnd src).EventLaw := by
  have happlied : ((s.stopTimer src).applyStaged src).EventLaw := applyStaged_eventLaw (s := s.stopTimer src) hs src
  rw [takeWindowEnd_eq]
  refine raise_eventLaw (s := setContract _ src _) ?_ _
  exact refuseList_eventLaw (s := setHold _ src []) happlied _ (s.hold src)

theorem qualifyingEdge_eventLaw {s : State} (hs : s.EventLaw) (n : Fin 4) : (s.qualifyingEdge n).EventLaw := by
  unfold qualifyingEdge
  exact countEdges_eventLaw hs n _

theorem settle_eventLaw {s : State} (hs : s.EventLaw) (n : Fin 4) (level : Level) : (s.settle n level).EventLaw := by
  rw [settle_eq]
  split
  · exact qualifyingEdge_eventLaw (s := s.setLine n _) hs n
  · exact hs

theorem pinChange_eventLaw {s : State} (hs : s.EventLaw) (n : Fin 4) (level : Level) : (s.pinChange n level).EventLaw := by
  simp only [pinChange]
  repeat' split
  · exact hs
  · exact settle_eventLaw (s := s.setLine n _) hs n level
  · exact hs

theorem writeLine_eventLaw {s : State} (hs : s.EventLaw) (n : Fin 4) (edge : EdgeSetting) (filter : Nat) :
    (s.writeLine n edge filter).EventLaw := by
  simp only [writeLine]
  repeat' split
  · exact hs
  · exact settle_eventLaw (s := s.setLine n _) hs n _
  · exact hs

theorem releaseList_eventLaw {s : State} (hs : s.EventLaw) (src : Fin 32) (l : List StoredReq) :
    (s.releaseList src l).EventLaw := by
  induction l generalizing s with
  | nil => exact hs
  | cons r rest ih => exact ih (countSource_eventLaw (s := s.enqueue src r) hs _ _ _)

theorem halt_eventLaw {s : State} (hs : s.EventLaw) (src : Fin 32) (st : SourceState) : (s.halt src st).EventLaw :=
  applyStaged_eventLaw (s := s.setContract src _) hs src

theorem disableSource_eventLaw {s : State} (hs : s.EventLaw) (src : Fin 32) : (s.disableSource src).EventLaw := by
  by_cases hp : (s.contract src).state = .paced
  · rw [disableSource_of_paced hp, disablePaced_eq]
    exact releaseList_eventLaw (s := setHold _ src []) (halt_eventLaw hs src _) src _
  · rw [disableSource_of_not_paced hp]
    exact hs

theorem barSource_eventLaw {s : State} (hs : s.EventLaw) (src : Fin 32) : (s.barSource src).EventLaw := by
  rw [barSource_eq s src _ rfl]
  exact refuseList_eventLaw (s := setQueue (setHold _ src []) _ _) (halt_eventLaw hs src _) _ _

theorem armSource_eventLaw {s : State} (hs : s.EventLaw) (src : Fin 32) : (s.armSource src).EventLaw := by
  rw [armSource_eq]
  exact drainAndCheck_eventLaw (s := setContract _ src _) (applyStaged_eventLaw hs src) src

theorem restartContracts_eventLaw {s : State} (hs : s.EventLaw) (l : List (Fin 32)) : (s.restartContracts l).EventLaw := by
  induction l generalizing s with
  | nil => exact hs
  | cons src rest ih =>
    refine ih ?_
    unfold restartContract
    split
    · exact applyStaged_eventLaw hs src
    · exact hs

theorem resetTraffic_eventLaw {s : State} (hs : s.EventLaw) : s.resetTraffic.EventLaw := by
  unfold resetTraffic
  exact restartContracts_eventLaw (s := s.abortTraffic) hs _

/-! ### Requests and completions -/

theorem refuseMalformed_eventLaw {s : State} (hs : s.EventLaw) (src : Fin 32) (tag : Fin 64) :
    (s.refuseMalformed src tag).EventLaw :=
  raise_eventLaw (countGlobal_eventLaw (s := s.joinReturn _) hs _) _

theorem dropDuplicate_eventLaw {s : State} (hs : s.EventLaw) (src : Fin 32) (tag : Fin 16) : (s.dropDuplicate src tag).EventLaw :=
  raise_eventLaw (countGlobal_eventLaw (s := { s with tickets := s.tickets - 1 }) hs _) _

theorem holdRequest_eventLaw {s : State} (hs : s.EventLaw) (src : Fin 32) (r : StoredReq) : (s.holdRequest src r).EventLaw := by
  have hcounted := countSource_eventLaw (s := s.setHold src (s.hold src ++ [r])) hs src .heldCount 1
  simp only [holdRequest]
  split
  · exact raise_eventLaw (s := setSrcCount _ src _) hcounted _
  · exact hcounted

theorem placeArrival_eventLaw {s : State} (hs : s.EventLaw) (r : StoredReq) : (s.placeArrival r).EventLaw := by
  simp only [placeArrival]
  repeat' split
  · exact countSource_eventLaw (s := s.enqueue _ r) hs _ _ _
  · exact queueCharged_eventLaw hs _ r
  · exact holdRequest_eventLaw hs _ r
  · exact refuse_eventLaw hs _ _ _

theorem decideArrival_eventLaw {s : State} (hs : s.EventLaw) (q : Request) (k : Kind) (tag : Fin 16) :
    (s.decideArrival q k tag).EventLaw := by
  unfold decideArrival
  repeat' split
  any_goals exact refuse_eventLaw hs _ _ _
  all_goals exact placeArrival_eventLaw hs _

/-- The four ways a take goes (R5, R7 to R10). -/
theorem takeRequest_eventLaw {s : State} (hs : s.EventLaw) (q : Request) : (s.takeRequest q).EventLaw := by
  obtain ⟨hnone, -⟩ | ⟨tag, hq, -⟩ := liveTag_cases q.tag
  · rw [takeRequest_of_badTag hnone]
    exact refuseMalformed_eventLaw (s := s.takeTicket) hs _ _
  cases hlive : s.live q.source tag with
  | true =>
    rw [takeRequest_of_live hq hlive]
    exact dropDuplicate_eventLaw (s := s.takeTicket) hs _ _
  | false =>
    by_cases hform : ∀ k, q.kind = some k → badForm q k = true
    · rw [takeRequest_of_badForm hq hlive hform]
      exact refuseMalformed_eventLaw (s := s.takeTicket.setLive _ tag true) hs _ _
    · push Not at hform
      obtain ⟨k, hk, hform⟩ := hform
      rw [takeRequest_of_goodForm hq hlive hk (by simpa using hform)]
      exact decideArrival_eventLaw (countSource_eventLaw (s := s.takeTicket.setLive _ tag true) hs _ _ _) q k tag

theorem measure_eventLaw {s : State} (hs : s.EventLaw) (r : Outstanding) (isError : Bool) : (s.measure r isError).EventLaw := by
  have hcompleted := countClass_eventLaw hs r.cls .completions
  have hbinned := countClass_eventLaw hcompleted r.cls (.bin (binOf (s.cls r.cls).edges (s.latency r)))
  simp only [measure]
  split
  · refine countClass_eventLaw (s := offerResidence (setClsCount _ _ _) _ _) ?_ _ _
    exact hbinned
  · exact hbinned

/-- Each entry has its own way to count a completion (R128). -/
theorem matchCompletion_eventLaw {s : State} (hs : s.EventLaw) (m : DCompletion) : (s.matchCompletion m).EventLaw := by
  unfold matchCompletion
  split
  · exact measure_eventLaw (s := setEntry (returnCredit (joinReturn s _) _) _ .free) hs _ _
  · exact raise_eventLaw (countClass_eventLaw (s := setEntry (returnCredit s _) _ .free) hs _ _) _
  · exact raise_eventLaw (countGlobal_eventLaw hs _) _

theorem timeOut_eventLaw {s : State} (hs : s.EventLaw) (d : Fin 64) (r : Outstanding) : (s.timeOut d r).EventLaw :=
  raise_eventLaw (countClass_eventLaw (s := setEntry (joinReturn s _) d _) hs _ _) _

end State

/-! ### The management port -/

/-- A management command keeps the law where its effect does. -/
theorem manage_eventLaw {s t : State} {opcode : Byte} {a : Answer} (hs : s.EventLaw) (ha : a.state.EventLaw)
    (h : s.manage opcode a = .next t) : t.EventLaw := by
  by_cases hl : s.listening
  · rw [manage_listening hl] at h
    cases h
    exact ha
  · rw [manage_not_listening hl] at h
    cases h
    exact hs

/-- A command with its length judged first (R173). -/
theorem manage_judged_eventLaw {s t : State} {opcode : Byte} {f : Frame} {a : Answer} (hs : s.EventLaw) (ha : a.state.EventLaw)
    (h : s.manage opcode (judged f s a) = .next t) : t.EventLaw := by
  refine manage_eventLaw hs ?_ h
  unfold judged
  split
  · exact hs
  · exact ha

/-- A command that only reads. -/
theorem manage_read_eventLaw {s t : State} {opcode : Byte} {f : Frame} {a : Answer} (hs : s.EventLaw) (ha : a.state = s)
    (h : s.manage opcode (judged f s a) = .next t) : t.EventLaw :=
  manage_judged_eventLaw hs (ha ▸ hs) h

theorem answerSource_eventLaw {cmd : SourceCmd} {effect : State → Fin 32 → State} {s : State} (hs : s.EventLaw)
    (he : ∀ src, (effect s src).EventLaw) (f : Frame) : (answerSource cmd effect f s).state.EventLaw := by
  unfold answerSource
  repeat' split
  any_goals exact hs
  exact he _

theorem answerLineWrite_eventLaw {s : State} (hs : s.EventLaw) (f : Frame) : (answerLineWrite f s).state.EventLaw := by
  unfold answerLineWrite
  repeat' split
  any_goals exact hs
  exact State.writeLine_eventLaw hs _ _ _

theorem answerTrafficReset_eventLaw {s : State} (hs : s.EventLaw) (f : Frame) : (answerTrafficReset f s).state.EventLaw := by
  unfold answerTrafficReset
  split
  · exact hs
  · dsimp only
    exact State.resetTraffic_eventLaw hs

/-- The one command that takes a record off the queue (R164). -/
theorem answerEventRelease_eventLaw {s : State} (hs : s.EventLaw) (f : Frame) : (answerEventRelease f s).state.EventLaw := by
  unfold answerEventRelease
  repeat' split
  any_goals exact hs
  exact EventQueue.release_law hs ‹_› _

theorem answerContractWrite_evq (s : State) (f : Frame) : (answerContractWrite f s).state.evq = s.evq := by
  unfold answerContractWrite
  repeat' split
  all_goals rfl

theorem answerClassWrite_evq (s : State) (f : Frame) : (answerClassWrite f s).state.evq = s.evq := by
  simp only [answerClassWrite, State.writeClass]
  repeat' split
  all_goals rfl

theorem answerCounters_evq (s : State) (f : Frame) {after : State → Group → State} (h : ∀ g, (after s g).evq = s.evq) :
    (answerCounters after f s).state.evq = s.evq := by
  unfold answerCounters
  repeat' split
  any_goals rfl
  exact h _

theorem clearGroup_evq (s : State) (g : Group) : (s.clearGroup g).evq = s.evq := by cases g <;> rfl

theorem answerStatus_evq (s : State) (f : Frame) : (answerStatus f s).state.evq = s.evq := by
  unfold answerStatus
  split <;> rfl

theorem answerGlobalWrite_evq (s : State) (f : Frame) : (answerGlobalWrite f s).state.evq = s.evq := by
  unfold answerGlobalWrite
  repeat' split
  all_goals rfl

theorem answerRegionWrite_evq (s : State) (f : Frame) : (answerRegionWrite f s).state.evq = s.evq := by
  unfold answerRegionWrite
  repeat' split
  all_goals rfl

/-- A command that writes something else than the event queue. -/
theorem manage_same_eventLaw {s t : State} {opcode : Byte} {f : Frame} {a : Answer} (hs : s.EventLaw) (ha : a.state.evq = s.evq)
    (h : s.manage opcode (judged f s a) = .next t) : t.EventLaw :=
  manage_judged_eventLaw hs (by rwa [State.EventLaw, ha]) h

/-- The commands of the management port. -/
theorem exec_management_eventLaw {c : Instr} {s t : State} (hc : c.frame?.isSome = true) (hs : s.EventLaw) (h : exec c s = .next t) :
    t.EventLaw := by
  cases c with
  | enable f => exact manage_judged_eventLaw hs (answerSource_eventLaw hs (fun _ => hs) f) h
  | disable f => exact manage_judged_eventLaw hs (answerSource_eventLaw hs (State.disableSource_eventLaw hs) f) h
  | bar f => exact manage_judged_eventLaw hs (answerSource_eventLaw hs (State.barSource_eventLaw hs) f) h
  | unbar f => exact manage_judged_eventLaw hs (answerSource_eventLaw hs (fun _ => hs) f) h
  | arm f => exact manage_judged_eventLaw hs (answerSource_eventLaw hs (State.armSource_eventLaw hs) f) h
  | lineWrite f => exact manage_judged_eventLaw hs (answerLineWrite_eventLaw hs f) h
  | trafficReset f => exact manage_judged_eventLaw hs (answerTrafficReset_eventLaw hs f) h
  | eventRelease f => exact manage_judged_eventLaw hs (answerEventRelease_eventLaw hs f) h
  | contractWrite f => exact manage_same_eventLaw hs (answerContractWrite_evq s f) h
  | classWrite f => exact manage_same_eventLaw hs (answerClassWrite_evq s f) h
  | countersRead f => exact manage_same_eventLaw hs (answerCounters_evq s f fun _ => rfl) h
  | countersReadClear f => exact manage_same_eventLaw hs (answerCounters_evq s f (clearGroup_evq s)) h
  | status f => exact manage_same_eventLaw hs (answerStatus_evq s f) h
  | globalWrite f => exact manage_same_eventLaw hs (answerGlobalWrite_evq s f) h
  | regionWrite f => exact manage_same_eventLaw hs (answerRegionWrite_evq s f) h
  | unknownOpcode o f => exact manage_eventLaw hs hs h
  | identify f => exact manage_read_eventLaw hs (answerIdentify_state f s) h
  | timeRead f => exact manage_read_eventLaw hs (answerTimeRead_state f s) h
  | globalRead f => exact manage_read_eventLaw hs (answerGlobalRead_state f s) h
  | eventRead f => exact manage_read_eventLaw hs (answerEventRead_state f s) h
  | contractRead f => exact manage_read_eventLaw hs (answerContractRead_state f s) h
  | holdRead f => exact manage_read_eventLaw hs (answerHoldRead_state f s) h
  | regionRead f => exact manage_read_eventLaw hs (answerRegionRead_state f s) h
  | classRead f => exact manage_read_eventLaw hs (answerClassRead_state f s) h
  | lineRead f => exact manage_read_eventLaw hs (answerLineRead_state f s) h
  | _ => cases hc

/-! ### Every command -/

/-- An outcome chosen by a test keeps the law where both of its ways do. -/
theorem ite_eventLaw {p : Prop} [Decidable p] {t u v : State}
    (h : (if p then (.next u : Host.Outcome State Fault Refusal) else .next v) = .next t) (hu : u.EventLaw) (hv : v.EventLaw) :
    t.EventLaw := by
  split at h <;> cases h
  · exact hu
  · exact hv

theorem execUpstreamReset_eventLaw {s t : State} (hs : s.EventLaw) (h : execUpstreamReset s = .next t) : t.EventLaw := by
  unfold execUpstreamReset at h
  split at h
  · cases h
    exact hs
  · exact ite_eventLaw h hs (State.raise_eventLaw (s := s.dropUpstream) hs _)

theorem execHandOver_evq {s t : State} (h : execHandOver s = .next t) : t.evq = s.evq := by
  unfold execHandOver at h
  split at h <;> cases h
  · rfl
  · rw [handOverHead_eq]

theorem execGrant_evq {s t : State} (h : execGrant s = .next t) : t.evq = s.evq := by
  unfold execGrant at h
  repeat' split at h
  all_goals
    cases h
    rfl

theorem execResponseTimeout_eventLaw {s t : State} {d : Fin 64} (hs : s.EventLaw) (h : execResponseTimeout d s = .next t) :
    t.EventLaw := by
  unfold execResponseTimeout at h
  repeat' split at h
  all_goals cases h
  · exact State.timeOut_eventLaw hs d _
  all_goals exact hs

theorem execTransitionSettles_eventLaw {s t : State} {n : Fin 4} (hs : s.EventLaw) (h : execTransitionSettles n s = .next t) :
    t.EventLaw := by
  unfold execTransitionSettles at h
  repeat' split at h
  all_goals cases h
  · exact State.settle_eventLaw hs n _
  all_goals exact hs

theorem execTriggerPinChange_eventLaw {s t : State} {n : Fin 4} {level : Level} (hs : s.EventLaw)
    (h : execTriggerPinChange n level s = .next t) : t.EventLaw := by
  unfold execTriggerPinChange at h
  split at h
  · cases h
    exact hs
  · exact ite_eventLaw h hs (State.pinChange_eventLaw hs n level)

theorem execCommandCut_evq {s t : State} {bytes : List Byte} (h : execCommandCut bytes s = .next t) : t.evq = s.evq := by
  unfold execCommandCut at h
  repeat' split at h
  all_goals
    cases h
    rfl

theorem execResponseCut_evq {s t : State} {n : Nat} (h : execResponseCut n s = .next t) : t.evq = s.evq := by
  unfold execResponseCut at h
  repeat' split at h
  all_goals
    cases h
    rfl

theorem exec_eventLaw {c : Instr} {s t : State} (hs : s.EventLaw) (h : exec c s = .next t) : t.EventLaw := by
  have hsame (he : t.evq = s.evq) : t.EventLaw := by rwa [State.EventLaw, he]
  cases c with
  | powerOnReset mcsN =>
    cases h
    exact EventQueue.empty_law 0
  | resetNFall => exact ite_eventLaw h hs (EventQueue.empty_law s.evq.nextSeq)
  | upstreamReset => exact execUpstreamReset_eventLaw hs h
  | upRdyRise =>
    cases h
    exact hs
  | downstreamDown => exact ite_eventLaw h hs (State.raise_eventLaw (s := s.dropDownstream) hs _)
  | downstreamUp => exact ite_eventLaw h hs (State.raise_eventLaw (s := s.loadCredits) hs _)
  | take header data => exact ite_eventLaw h (State.takeRequest_eventLaw hs _) hs
  | handOver => exact hsame (execHandOver_evq h)
  | grant => exact hsame (execGrant_evq h)
  | downstreamCompletion header data => exact ite_eventLaw h hs (State.matchCompletion_eventLaw hs _)
  | responseTimeout d => exact execResponseTimeout_eventLaw hs h
  | boundary src => exact ite_eventLaw h (State.takeBoundary_eventLaw hs src) hs
  | headExpiry src => exact ite_eventLaw h (State.cascadeFuel_eventLaw hs src _) hs
  | windowEnd src => exact ite_eventLaw h (State.takeWindowEnd_eventLaw hs src) hs
  | triggerPinChange n level => exact execTriggerPinChange_eventLaw hs h
  | transitionSettles n => exact execTransitionSettles_eventLaw hs h
  | commandCut bytes => exact hsame (execCommandCut_evq h)
  | responseCut n => exact hsame (execResponseCut_evq h)
  | _ => exact exec_management_eventLaw rfl hs h

/-- Settles O54: a step takes one command, or none, on a state with the same event queue. -/
theorem stepKeepsEventLaw : Obligations.StepKeepsEventLaw := by
  intro s t hs h
  obtain ⟨u, hu, h⟩ := step_cases h
  have hlaw : u.EventLaw := by
    rw [hu]
    exact hs
  obtain ⟨_, h⟩ | rfl | rfl := h
  · exact exec_eventLaw hlaw h
  · rw [tick_eq]
    exact hlaw
  · exact hlaw

end Sys2Proof.Machine
end

section
/-! The event queue's statements on single operations: what an event raised does, and what EVENT_READ and EVENT_RELEASE answer. -/

namespace Sys2Proof.Machine

/-! ### An event raised (R160, R161) -/

theorem enabled_iff (s : State) (e : Event) :
    s.enabled e = true ↔ e.kindCode = 13 ∨ s.globals.mask.getLsbD e.kindCode = true := by
  simp [State.enabled]

theorem raise_of_masked {s : State} {e : Event} (h : ¬ s.enabled e = true) : s.raise e = s := if_neg h

theorem raise_evq_of_enabled {s : State} {e : Event} (h : s.enabled e = true) : (s.raise e).evq = s.evq.offer s.timeBase e := by
  rw [State.raise_evq, if_pos h]

theorem EventQueue.offer_of_room {q : EventQueue} (h : q.records.length < 32) (time : Time) (e : Event) : q.offer time e = q.join time e :=
  if_pos h

/-- A record lost is counted up to 2^32 − 1 (R161). -/
theorem EventQueue.offer_of_full {q : EventQueue} (h : 32 ≤ q.records.length) (time : Time) (e : Event) :
    q.offer time e = { q with lost := (q.offer time e).lost } ∧
      (q.offer time e).lost.toNat = min (q.lost.toNat + 1) (2 ^ 32 - 1) := by
  have hfull : ¬ q.records.length < Config.eventCapacity := Nat.not_lt.mpr h
  by_cases hmax : q.lost = BitVec.allOnes 32
  · simp only [EventQueue.offer, if_neg hfull, if_pos hmax, true_and]
    rw [hmax]
    rfl
  · simp only [EventQueue.offer, if_neg hfull, if_neg hmax, true_and]
    have hbelow : q.lost.toNat ≠ 2 ^ 32 - 1 := fun hval => hmax (BitVec.eq_of_toNat_eq (by simpa using hval))
    exact (counter_add_toNat q.lost 1).trans (by omega)

theorem alertN_eq_low_iff (s : State) : s.alertN = .low ↔ s.resetN = .high ∧ s.evq.records ≠ [] := by
  unfold State.alertN
  split <;> simp_all

/-- ALERT_N shows RESET_N and the records alone (R166). -/
theorem alertN_congr {s t : State} (hr : t.resetN = s.resetN) (hq : t.evq.records = s.evq.records) : t.alertN = s.alertN := by
  simp only [State.alertN, hr, hq]

/-- Settles O48: an enabled event is offered to the queue, which has room for it or counts it as lost. -/
theorem raisedEventJoinsOrIsLost : Obligations.RaisedEventJoinsOrIsLost := by
  refine ⟨alertN_eq_low_iff, fun s e => ⟨raise_eq s e, fun hmasked => ?_, fun henabled hroom => ?_, fun henabled hfull => ?_⟩⟩
  · exact raise_of_masked (mt (enabled_iff s e).1 hmasked)
  · rw [raise_evq_of_enabled ((enabled_iff s e).2 henabled), EventQueue.offer_of_room hroom]
    rfl
  · obtain ⟨hkept, hlost⟩ := EventQueue.offer_of_full hfull s.timeBase e
    rw [← raise_evq_of_enabled ((enabled_iff s e).2 henabled)] at hkept hlost
    have hrecords : (s.raise e).evq.records = s.evq.records := by rw [hkept]
    have hnext : (s.raise e).evq.nextSeq = s.evq.nextSeq := by rw [hkept]
    exact ⟨hrecords, hnext, alertN_congr (by simp) hrecords, hlost⟩

/-! ### The fields of a record (R158, R159, R185) -/

/-- A detail that fits its 32 bits is the number itself. -/
theorem detail_toNat {n : Nat} (h : n < 2 ^ 32) : (BitVec.ofNat 32 n).toNat = n := by
  rw [BitVec.toNat_ofNat, Nat.mod_eq_of_lt h]

theorem reason_code_le_seven (reason : Reason) : reason.code ≤ 7 := by cases reason <;> decide

theorem counterId_code_lt (id : CounterId) : id.code < 2 ^ 32 := by
  rcases id with ⟨_, k⟩ | ⟨_, k⟩ | k <;> cases k <;> simp only [CounterId.code] <;> omega

/-- A record's fields, once its detail is known as a number. -/
theorem fields_eq {e : Event} {n : Nat} (h : e.detail.toNat = n) :
    (e.kindCode, e.source?, e.class?, e.detail.toNat) = (e.kindCode, e.source?, e.class?, n) := by
  rw [h]

/-- The presence byte tells which of source and class a record carries (R185). -/
theorem presence_eq (e : Event) :
    e.presence = byteOf ((if e.source? = none then 0 else 1) + if e.class? = none then 0 else 2) := by
  cases hs : e.source? <;> cases hc : e.class? <;> simp [Event.presence, hs, hc]

theorem eventRecord_bytes_eq (r : EventRecord) (count : Nat) : r.bytes count =
    bytes2 r.seq.toNat ++ [byteOf r.event.kindCode] ++ bytes4 r.time.toNat
      ++ [byteOf ((if r.event.source? = none then 0 else 1) + if r.event.class? = none then 0 else 2),
        byteOf (match r.event.source? with
          | none => 0
          | some src => src.val),
        byteOf (match r.event.class? with
          | none => 0
          | some c => c.val)]
      ++ bytes4 r.event.detail.toNat ++ [byteOf count] := by
  rw [EventRecord.bytes, presence_eq]
  cases r.event.source? <;> cases r.event.class? <;> simp

/-! ### EVENT_READ and EVENT_RELEASE (R163, R164) -/

/-- BAD_LENGTH is the answer to every length but the command's own, also above 48 (R173). -/
theorem judged_of_badLength {f : Frame} {s : State} {own : Answer} (h : own = refused .badLength s) :
    judged f s own = refused .badLength s := by
  unfold judged
  split
  · rfl
  · exact h

section events

variable {f : Frame} {s : State}

theorem answerEventRead_badLength (hl : f.len.toNat ≠ 0) : answerEventRead f s = refused .badLength s := by
  simp only [answerEventRead, badLength_of_ne hl, if_true]

theorem answerEventRead_empty (hl : f.len.toNat = 0) (hq : s.evq.records = []) : answerEventRead f s = refused .empty s := by
  simp only [answerEventRead, badLength_of_eq hl, Bool.false_eq_true, if_false, hq]

theorem answerEventRead_head {r : EventRecord} {rest : List EventRecord} (hl : f.len.toNat = 0) (hq : s.evq.records = r :: rest) :
    answerEventRead f s = ⟨.ok, r.bytes (rest.length + 1), s⟩ := by
  simp only [answerEventRead, badLength_of_eq hl, Bool.false_eq_true, if_false, hq]

theorem answerEventRelease_badLength (hl : f.len.toNat ≠ 2) : answerEventRelease f s = refused .badLength s := by
  simp only [answerEventRelease, badLength_of_ne hl, if_true]

theorem answerEventRelease_empty (hl : f.len.toNat = 2) (hq : s.evq.records = []) :
    answerEventRelease f s = refused .empty s := by
  simp only [answerEventRelease, badLength_of_eq hl, Bool.false_eq_true, if_false, hq]

theorem answerEventRelease_head {r : EventRecord} {rest : List EventRecord} (hl : f.len.toNat = 2)
    (hq : s.evq.records = r :: rest) : answerEventRelease f s =
      if r.seq.toNat ≠ f.u16 0 then refused .state s else ⟨.ok, [], { s with evq := s.evq.release s.timeBase rest }⟩ := by
  simp only [answerEventRelease, badLength_of_eq hl, Bool.false_eq_true, if_false, hq]

variable (h : s.listening)
include h

theorem exec_eventRead_badLength (hl : f.len.toNat ≠ 0) :
    exec (.eventRead f) s = .next (s.answered 0x48#8 .badLength []) := by
  rw [exec, execEventRead, judged_of_badLength (answerEventRead_badLength hl), manage_listening h]
  rfl

theorem exec_eventRead (hl : f.len.toNat = 0) : exec (.eventRead f) s =
    .next ((answerEventRead f s).state.answered 0x48#8 (answerEventRead f s).status (answerEventRead f s).data) := by
  rw [exec, execEventRead, judged_of_len_le s _ (by omega), manage_listening h]

theorem exec_eventRelease_badLength (hl : f.len.toNat ≠ 2) :
    exec (.eventRelease f) s = .next (s.answered 0x49#8 .badLength []) := by
  rw [exec, execEventRelease, judged_of_badLength (answerEventRelease_badLength hl), manage_listening h]
  rfl

theorem exec_eventRelease (hl : f.len.toNat = 2) : exec (.eventRelease f) s =
    .next ((answerEventRelease f s).state.answered 0x49#8 (answerEventRelease f s).status (answerEventRelease f s).data) := by
  rw [exec, execEventRelease, judged_of_len_le s _ (by omega), manage_listening h]

/-- A release that names the head's sequence takes the head off the queue (R164). -/
theorem exec_eventRelease_head {r : EventRecord} {rest : List EventRecord} (hl : f.len.toNat = 2)
    (hq : s.evq.records = r :: rest) (hseq : r.seq.toNat = f.u16 0) : exec (.eventRelease f) s =
      .next (({ s with evq := s.evq.release s.timeBase rest } : State).answered 0x49#8 .ok []) := by
  rw [exec_eventRelease h hl, answerEventRelease_head hl hq, if_neg (not_not.mpr hseq)]

end events

/-- Settles O34: the fields of a record kind by kind, and the answers in the order of the checks. -/
theorem eventReadShowsAndReleaseRemovesTheHead : Obligations.EventReadShowsAndReleaseRemovesTheHead := by
  refine ⟨fun e => ?_, fun f s h => ⟨exec_eventRead_badLength h, exec_eventRelease_badLength h, fun hq => ⟨fun hl => ?_, fun hl => ?_⟩,
    fun r rest hq => ⟨fun hl => ?_, fun hl hseq => ?_, fun hl hseq hlost => ?_, fun hl hseq hlost => ?_⟩⟩⟩
  · cases e with
    | holdStart src tag => exact fields_eq (detail_toNat (by omega))
    | waitExpired src tag action =>
      have := waitAction_code_le_one action
      have hfields := fields_eq (e := .waitExpired src tag action) (detail_toNat (by omega))
      cases action <;> exact hfields
    | refusal src tag reason =>
      have := reason_code_le_seven reason
      have hfields := fields_eq (e := .refusal src tag reason) (detail_toNat (by omega))
      cases reason <;> exact hfields
    | duplicateTag src tag => exact fields_eq (detail_toNat (by omega))
    | responseTimeout src c tag dtag => exact fields_eq (detail_toNat (by omega))
    | lateCompletion src c dtag => exact fields_eq (detail_toNat (by omega))
    | strayCompletion dtag => exact fields_eq (detail_toNat (by omega))
    | downstreamDown aborted orphans => exact fields_eq (BitVec.toNat_ofNat _ _)
    | downstreamUp credits => exact fields_eq (BitVec.toNat_ofNat _ _)
    | upstreamReset slots orphaned => exact fields_eq (BitVec.toNat_ofNat _ _)
    | windowClosed src refused => exact fields_eq (BitVec.toNat_ofNat _ _)
    | contractApplied src => rfl
    | counterWrap id =>
      have hfields := fields_eq (e := .counterWrap id) (detail_toNat (counterId_code_lt id))
      rcases id with ⟨_, k⟩ | ⟨_, k⟩ | k <;> cases k <;> exact hfields
    | overflow lost => rfl
  · rw [exec_eventRead h hl, answerEventRead_empty hl hq]
    rfl
  · rw [exec_eventRelease h hl, answerEventRelease_empty hl hq]
    rfl
  · rw [exec_eventRead h hl, answerEventRead_head hl hq]
    exact congrArg (fun bytes => Host.Outcome.next (s.answered 0x48#8 .ok bytes)) (eventRecord_bytes_eq r _)
  · rw [exec_eventRelease h hl, answerEventRelease_head hl hq, if_pos hseq]
    rfl
  · rw [exec_eventRelease_head h hl hq hseq, EventQueue.release_of_none_lost hlost]
    rfl
  · rw [exec_eventRelease_head h hl hq hseq, EventQueue.release_of_lost hlost]
    rfl

end Sys2Proof.Machine
end

section
/-! The answers of the management port: a command that is refused answers its status alone and leaves the state as it is, and the length
check of a command whose payload length is fixed. -/

namespace Sys2Proof.Machine

/-! ### Answers that refuse (R173) -/

/-- An answer that is a refusal, or else OK or STAGED. -/
def Answer.QuietIfRefused (s : State) (a : Answer) : Prop :=
  a.status = .ok ∨ a.status = .staged ∨ a = refused a.status s

theorem refused_quiet (st : Status) (s : State) : (refused st s).QuietIfRefused s := .inr (.inr rfl)

theorem ok_quiet (data : List Byte) (s t : State) : (⟨.ok, data, t⟩ : Answer).QuietIfRefused s := .inl rfl

theorem staged_quiet (data : List Byte) (s t : State) : (⟨.staged, data, t⟩ : Answer).QuietIfRefused s := .inr (.inl rfl)

theorem ite_quiet {p : Prop} [Decidable p] {s : State} {a b : Answer} (ha : a.QuietIfRefused s) (hb : b.QuietIfRefused s) :
    (if p then a else b).QuietIfRefused s := by
  split
  · exact ha
  · exact hb

section

variable (f : Frame) (s : State)

theorem answerIdentify_quiet : (answerIdentify f s).QuietIfRefused s := ite_quiet (refused_quiet _ _) (ok_quiet _ _ _)

theorem answerStatus_quiet : (answerStatus f s).QuietIfRefused s := ite_quiet (refused_quiet _ _) (ok_quiet _ _ _)

theorem answerTimeRead_quiet : (answerTimeRead f s).QuietIfRefused s := ite_quiet (refused_quiet _ _) (ok_quiet _ _ _)

theorem answerGlobalRead_quiet : (answerGlobalRead f s).QuietIfRefused s := ite_quiet (refused_quiet _ _) (ok_quiet _ _ _)

theorem answerTrafficReset_quiet : (answerTrafficReset f s).QuietIfRefused s := ite_quiet (refused_quiet _ _) (ok_quiet _ _ _)

theorem answerGlobalWrite_quiet : (answerGlobalWrite f s).QuietIfRefused s := by
  refine ite_quiet (refused_quiet _ _) ?_
  split
  · exact refused_quiet _ _
  · exact ok_quiet _ _ _

theorem answerEventRead_quiet : (answerEventRead f s).QuietIfRefused s := by
  refine ite_quiet (refused_quiet _ _) ?_
  split
  · exact refused_quiet _ _
  · exact ok_quiet _ _ _

theorem answerEventRelease_quiet : (answerEventRelease f s).QuietIfRefused s := by
  refine ite_quiet (refused_quiet _ _) ?_
  split
  · exact refused_quiet _ _
  · exact ite_quiet (refused_quiet _ _) (ok_quiet _ _ _)

theorem answerCounters_quiet (after : State → Group → State) : (answerCounters after f s).QuietIfRefused s := by
  refine ite_quiet (refused_quiet _ _) (ite_quiet (refused_quiet _ _) ?_)
  split
  · exact refused_quiet _ _
  · exact ok_quiet _ _ _

theorem readAnswer_quiet (n : Nat) (bytes : Fin n → List Byte) : (readAnswer n bytes f s).QuietIfRefused s := by
  unfold readAnswer
  split
  · exact refused_quiet _ _
  · exact ite_quiet (refused_quiet _ _) (ok_quiet _ _ _)

theorem answerHoldRead_quiet : (answerHoldRead f s).QuietIfRefused s := by
  unfold answerHoldRead
  split
  · exact refused_quiet _ _
  · refine ite_quiet (refused_quiet _ _) ?_
    split
    · exact refused_quiet _ _
    · exact ok_quiet _ _ _

theorem answerSource_quiet (cmd : SourceCmd) (effect : State → Fin 32 → State) :
    (answerSource cmd effect f s).QuietIfRefused s := by
  unfold answerSource
  split
  · exact refused_quiet _ _
  · exact ite_quiet (refused_quiet _ _) (ite_quiet (refused_quiet _ _) (ite_quiet (refused_quiet _ _) (ok_quiet _ _ _)))

theorem answerContractWrite_quiet : (answerContractWrite f s).QuietIfRefused s := by
  unfold answerContractWrite
  split
  · exact refused_quiet _ _
  · refine ite_quiet (refused_quiet _ _) ?_
    split
    · exact refused_quiet _ _
    · exact ite_quiet (refused_quiet _ _) (ite_quiet (refused_quiet _ _) (ite_quiet (staged_quiet _ _ _) (ok_quiet _ _ _)))

theorem answerRegionWrite_quiet : (answerRegionWrite f s).QuietIfRefused s := by
  unfold answerRegionWrite
  split
  · exact refused_quiet _ _
  · refine ite_quiet (refused_quiet _ _) ?_
    split
    · exact refused_quiet _ _
    · exact ite_quiet (refused_quiet _ _) (ok_quiet _ _ _)

theorem answerLineWrite_quiet : (answerLineWrite f s).QuietIfRefused s := by
  unfold answerLineWrite
  split
  · exact refused_quiet _ _
  · refine ite_quiet (refused_quiet _ _) ?_
    split
    · exact refused_quiet _ _
    · exact ok_quiet _ _ _

theorem answerClassWrite_quiet : (answerClassWrite f s).QuietIfRefused s := by
  unfold answerClassWrite
  split
  · exact refused_quiet _ _
  · refine ite_quiet (refused_quiet _ _) (ite_quiet (refused_quiet _ _) (ite_quiet (refused_quiet _ _) ?_))
    split
    · exact staged_quiet _ _ _
    · exact ok_quiet _ _ _

end

/-! ### Every command of the management port -/

theorem frame_isSome (i : Instr) : i.frame?.isSome = i.opcode?.isSome := by cases i <;> rfl

theorem frame_of_opcode {i : Instr} {opcode : Byte} (h : i.opcode? = some opcode) : ∃ f, i.frame? = some f :=
  Option.isSome_iff_exists.1 (by rw [frame_isSome, h]; rfl)

/-- A command whose opcode is known is judged by its length byte and then by its own checks, and a refusal by these is quiet (R173). -/
theorem exec_management {i : Instr} {opcode : Byte} {f : Frame} (ho : i.opcode? = some opcode) (hf : i.frame? = some f)
    (hknown : ∀ o g, i ≠ .unknownOpcode o g) (s : State) :
    ∃ own : Answer, own.QuietIfRefused s ∧ exec i s = s.manage opcode (judged f s own) := by
  cases i with
  | unknownOpcode o g => exact absurd rfl (hknown o g)
  | identify g => cases ho; cases hf; exact ⟨_, answerIdentify_quiet _ _, rfl⟩
  | status g => cases ho; cases hf; exact ⟨_, answerStatus_quiet _ _, rfl⟩
  | timeRead g => cases ho; cases hf; exact ⟨_, answerTimeRead_quiet _ _, rfl⟩
  | contractRead g => cases ho; cases hf; exact ⟨_, answerContractRead_eq f s ▸ readAnswer_quiet _ _ _ _, rfl⟩
  | contractWrite g => cases ho; cases hf; exact ⟨_, answerContractWrite_quiet _ _, rfl⟩
  | enable g => cases ho; cases hf; exact ⟨_, answerSource_quiet _ _ _ _, rfl⟩
  | disable g => cases ho; cases hf; exact ⟨_, answerSource_quiet _ _ _ _, rfl⟩
  | bar g => cases ho; cases hf; exact ⟨_, answerSource_quiet _ _ _ _, rfl⟩
  | unbar g => cases ho; cases hf; exact ⟨_, answerSource_quiet _ _ _ _, rfl⟩
  | arm g => cases ho; cases hf; exact ⟨_, answerSource_quiet _ _ _ _, rfl⟩
  | holdRead g => cases ho; cases hf; exact ⟨_, answerHoldRead_quiet _ _, rfl⟩
  | regionRead g => cases ho; cases hf; exact ⟨_, answerRegionRead_eq f s ▸ readAnswer_quiet _ _ _ _, rfl⟩
  | regionWrite g => cases ho; cases hf; exact ⟨_, answerRegionWrite_quiet _ _, rfl⟩
  | classRead g => cases ho; cases hf; exact ⟨_, answerClassRead_eq f s ▸ readAnswer_quiet _ _ _ _, rfl⟩
  | classWrite g => cases ho; cases hf; exact ⟨_, answerClassWrite_quiet _ _, rfl⟩
  | lineRead g => cases ho; cases hf; exact ⟨_, answerLineRead_eq f s ▸ readAnswer_quiet _ _ _ _, rfl⟩
  | lineWrite g => cases ho; cases hf; exact ⟨_, answerLineWrite_quiet _ _, rfl⟩
  | globalRead g => cases ho; cases hf; exact ⟨_, answerGlobalRead_quiet _ _, rfl⟩
  | globalWrite g => cases ho; cases hf; exact ⟨_, answerGlobalWrite_quiet _ _, rfl⟩
  | countersRead g => cases ho; cases hf; exact ⟨_, answerCounters_quiet _ _ _, rfl⟩
  | countersReadClear g => cases ho; cases hf; exact ⟨_, answerCounters_quiet _ _ _, rfl⟩
  | eventRead g => cases ho; cases hf; exact ⟨_, answerEventRead_quiet _ _, rfl⟩
  | eventRelease g => cases ho; cases hf; exact ⟨_, answerEventRelease_quiet _ _, rfl⟩
  | trafficReset g => cases ho; cases hf; exact ⟨_, answerTrafficReset_quiet _ _, rfl⟩
  | _ => cases ho

theorem exec_unknownOpcode (opcode : Byte) (f : Frame) (s : State) :
    exec (.unknownOpcode opcode f) s = s.manage opcode (refused .badOpcode s) := rfl

/-- A length byte above 48 is refused before a command's own checks (R173 step 2). -/
theorem judged_of_tooLong {f : Frame} (s : State) (own : Answer) (h : 48 < f.len.toNat) :
    judged f s own = refused .badLength s :=
  if_pos (decide_eq_true h)

theorem judged_quiet {s : State} {own : Answer} (f : Frame) (h : own.QuietIfRefused s) : (judged f s own).QuietIfRefused s :=
  ite_quiet (refused_quiet _ _) h

/-- Every command with an opcode is taken by `State.manage` under that opcode, and its refusals are quiet. -/
theorem exec_manages {i : Instr} {opcode : Byte} (h : i.opcode? = some opcode) (s : State) :
    ∃ a : Answer, a.QuietIfRefused s ∧ exec i s = s.manage opcode a := by
  obtain ⟨f, hf⟩ := frame_of_opcode h
  by_cases hknown : ∀ o g, i ≠ .unknownOpcode o g
  · obtain ⟨own, hown, hexec⟩ := exec_management h hf hknown s
    exact ⟨_, judged_quiet f hown, hexec⟩
  · push Not at hknown
    obtain ⟨o, g, rfl⟩ := hknown
    cases h
    exact ⟨_, refused_quiet _ _, exec_unknownOpcode _ _ _⟩

/-- Settles O30: the response names the answer's status, and a refusal is quiet. -/
theorem refusedManagementCommandChangesNothing : Obligations.RefusedManagementCommandChangesNothing := by
  refine ⟨fun i opcode s t r h ho hexec hr hok hstaged => ?_, fun opcode f s h => ?_, fun i opcode f s h ho hf hknown hlen => ?_⟩
  · obtain ⟨a, hquiet, ha⟩ := exec_manages ho s
    rw [ha, manage_listening h] at hexec
    cases hexec
    cases hr
    obtain hst | hst | hst := hquiet
    · exact absurd hst hok
    · exact absurd hst hstaged
    · rw [hst]
      rfl
  · rw [exec_unknownOpcode, manage_listening h]
    rfl
  · obtain ⟨own, -, hexec⟩ := exec_management ho hf hknown s
    rw [hexec, judged_of_tooLong s own hlen, manage_listening h]
    rfl

/-! ### Commands that check their length alone (R175, R176, R87, R177, R178) -/

/-- A command whose first check is for a payload of `n` bytes: BAD_LENGTH for every other length byte, and else what follows. -/
theorem lengthCheck_then {c : Instr} {f : Frame} {s : State} {opcode : Byte} {n : Nat} {own : Answer}
    (hexec : exec c s = s.manage opcode (judged f s (if f.badLength n then refused .badLength s else own)))
    (h : s.listening) (hn : n ≤ 48) :
    (f.len.toNat ≠ n → exec c s = .next (s.answered opcode .badLength [])) ∧
    (f.len.toNat = n → exec c s = .next (own.state.answered opcode own.status own.data)) := by
  rw [hexec, manage_listening h]
  refine ⟨fun hl => ?_, fun hl => ?_⟩
  · rw [judged_of_badLength (if_pos (badLength_of_ne hl))]
    rfl
  · rw [judged_of_len_le s _ (hl.le.trans hn), badLength_of_eq hl, if_neg Bool.false_ne_true]

theorem identifyBytes_eq : identifyBytes =
    [0x0C#8, 0x5E#8, 0x24#8, 0x10#8, 1#8, 32#8, 4#8, 16#8, 4#8, 96#8, 64#8, 32#8, 160#8, 48#8] := rfl

theorem readyByte_eq (s : State) :
    s.readyByte = byteOf ((if s.upRdy = .high then 1 else 0) + if s.dnRdy = .high then 2 else 0) := by
  unfold State.readyByte
  cases s.upRdy <;> cases s.dnRdy <;> rfl

/-- Settles O31: each of the three checks its length and answers from the state; the bytes of IDENTIFY and the ready byte of STATUS are
written out. -/
theorem identifyStatusAndTimeAnswer : Obligations.IdentifyStatusAndTimeAnswer := by
  intro f s h
  have hidentify := lengthCheck_then (c := .identify f) rfl h (Nat.zero_le _)
  have hstatus := lengthCheck_then (c := .status f) rfl h (Nat.zero_le _)
  have htime := lengthCheck_then (c := .timeRead f) rfl h (Nat.zero_le _)
  refine ⟨fun hl => ⟨hidentify.1 hl, hstatus.1 hl, htime.1 hl⟩, fun hl => ⟨?_, ?_, htime.2 hl⟩⟩
  · rw [hidentify.2 hl, identifyBytes_eq]
  · rw [hstatus.2 hl, State.statusBytes, readyByte_eq]
    cases s.frameFault.kind <;> rfl

/-! ### GLOBAL_WRITE and GLOBAL_READ (R177) -/

theorem policy_ofCode_eq_some_iff {n : Nat} {p : Policy} : Policy.ofCode n = some p ↔ p.code = n := by
  constructor
  · intro h
    unfold Policy.ofCode at h
    split at h <;> cases h <;> rfl
  · rintro rfl
    exact policy_ofCode_code p

theorem policy_code_le_one (p : Policy) : p.code ≤ 1 := by cases p <;> decide

/-- The payloads that give the four settings: each field in its range, at its place in the layout (R177, R184). -/
theorem global_ofFrame_eq_some_iff {f : Frame} {x : GlobalSettings} : GlobalSettings.ofFrame f = some x ↔
    x.policy.code = f.u8 0 ∧ x.unmatchedAction.code = f.u8 1 ∧ x.unmatchedWeight.beats = f.u8 2 ∧ x.mask.toNat = f.u16 3 := by
  rw [← policy_ofCode_eq_some_iff, ← regionAction_ofCode_eq_some_iff, ← weight_ofCode_eq_some_iff]
  constructor
  · intro h
    unfold GlobalSettings.ofFrame at h
    split at h
    · next hp ha hw =>
      split at h
      · next hrange =>
        cases h
        exact ⟨hp, ha, hw, Nat.mod_eq_of_lt hrange⟩
      · cases h
    · cases h
  · rintro ⟨hp, ha, hw, hm⟩
    simp only [GlobalSettings.ofFrame, hp, ha, hw, ← hm, if_pos x.mask.isLt, BitVec.ofNat_toNat, BitVec.setWidth_eq]

/-- A field out of its range leaves no settings (R177). -/
theorem global_ofFrame_of_outOfRange {f : Frame}
    (hbad : 1 < f.u8 0 ∨ 2 < f.u8 1 ∨ (f.u8 2 ≠ 1 ∧ f.u8 2 ≠ 2 ∧ f.u8 2 ≠ 4) ∨ 2 ^ 13 ≤ f.u16 3) :
    GlobalSettings.ofFrame f = none := by
  refine Option.eq_none_iff_forall_ne_some.2 fun x hx => ?_
  obtain ⟨hp, ha, hw, hm⟩ := global_ofFrame_eq_some_iff.1 hx
  have hpolicy := policy_code_le_one x.policy
  have haction := regionAction_code_le_two x.unmatchedAction
  have hweight := weight_beats_cases x.unmatchedWeight
  have hmask := x.mask.isLt
  omega

/-- The bytes of settings read from a payload of 5 bytes are that payload (R177, R184). -/
theorem global_bytes_of_ofFrame {f : Frame} {x : GlobalSettings} (h : GlobalSettings.ofFrame f = some x)
    (hlen : f.payload.length = 5) : x.bytes = f.payload := by
  obtain ⟨hp, ha, hw, hm⟩ := global_ofFrame_eq_some_iff.1 h
  rw [payload_eq_map_u8 f, hlen, GlobalSettings.bytes, hp, ha, hw, hm, bytes2_u16]
  rfl

/-- Settles O44: length, then the fields, and the read-back because the settings' bytes are the payload they were read from. -/
theorem globalWriteReplacesSettings : Obligations.GlobalWriteReplacesSettings := by
  intro f s h _
  have hwrite := lengthCheck_then (c := .globalWrite f) rfl h (by decide : 5 ≤ 48)
  refine ⟨hwrite.1, fun hl hbad => ?_, fun x g hl hwf hp ha hw hm hg => ⟨?_, ?_⟩⟩
  · rw [hwrite.2 hl, global_ofFrame_of_outOfRange hbad]
    rfl
  · rw [hwrite.2 hl, global_ofFrame_eq_some_iff.2 ⟨hp, ha, hw, hm⟩]
  · have hread := lengthCheck_then (c := .globalRead g) (s := { s with globals := x }) rfl h (Nat.zero_le _)
    rw [hread.2 (by rw [hg]; rfl), global_bytes_of_ofFrame (global_ofFrame_eq_some_iff.2 ⟨hp, ha, hw, hm⟩)
      (payload_length_of_wellFormed hwf hl (by decide))]

end Sys2Proof.Machine
end

section
/-! TRAFFIC_RESET (R178): the store and the ACTIVE entries are aborted, and then each PACED contract starts afresh, source by source. -/

namespace Sys2Proof.Machine

/-! ### Each contract after the command (R57) -/

/-- A contract after TRAFFIC_RESET: a PACED one takes its staged copy and starts afresh (R57). -/
def Contract.restarted (c : Contract) (now : Time) : Contract := if c.state = .paced then c.applied.started 0 now else c

theorem Contract.restarted_of_not_paced {c : Contract} (h : c.state ≠ .paced) (now : Time) : c.restarted now = c := if_neg h

/-- The eight fields of a PACED contract that has restarted, the staged copy's settings in place of the live ones if it has one. -/
theorem Contract.restarted_of_paced {c : Contract} (h : c.state = .paced) (now : Time) :
    c.restarted now =
      { settings := c.staged.getD c.settings, state := .paced, balance := (c.staged.getD c.settings).budget, edgeCount := 0,
        staged := none, timer := (c.staged.getD c.settings).freshTimer now } := by
  rw [restarted, if_pos h]
  cases hs : c.staged with
  | none =>
    rw [applied_of_none hs, started, hs]
    rfl
  | some x =>
    rw [applied_of_some hs]
    rfl

theorem restartContract_contract (s : State) (src i : Fin 32) :
    (s.restartContract src).contract i = if i = src then (s.contract src).restarted s.timeBase else s.contract i := by
  by_cases hp : (s.contract src).state = .paced
  · rw [restartContract_of_paced hp, State.setContract_contract, Contract.restarted, if_pos hp]
    simp only [applyStaged_contract_applied, if_true]
    split <;> rfl
  · rw [State.restartContract, if_neg hp, Contract.restarted_of_not_paced hp]
    split
    · next hi => rw [hi]
    · rfl

/-- Restarting writes the contracts and the event queue alone. -/
theorem restartContract_eq (s : State) (src : Fin 32) :
    s.restartContract src = { s with contracts := (s.restartContract src).contracts, evq := (s.restartContract src).evq } := by
  by_cases hp : (s.contract src).state = .paced
  · rw [restartContract_of_paced hp]
    have happly := State.applyStaged_frame s src
    generalize s.applyStaged src = u at *
    cases u
    simp_all [State.setContract]
  · rw [State.restartContract, if_neg hp]

theorem restartContracts_eq (s : State) (l : List (Fin 32)) :
    s.restartContracts l = { s with contracts := (s.restartContracts l).contracts, evq := (s.restartContracts l).evq } := by
  induction l generalizing s with
  | nil => rfl
  | cons src rest ih =>
    rw [State.restartContracts, ih, restartContract_eq]

theorem restartContracts_contract (s : State) (l : List (Fin 32)) (hl : l.Nodup) (i : Fin 32) :
    (s.restartContracts l).contract i = if i ∈ l then (s.contract i).restarted s.timeBase else s.contract i := by
  induction l generalizing s with
  | nil => rfl
  | cons src rest ih =>
    obtain ⟨hsrc, hrest⟩ := List.nodup_cons.1 hl
    have htime : (s.restartContract src).timeBase = s.timeBase := by rw [restartContract_eq]
    rw [State.restartContracts, ih _ hrest, restartContract_contract, htime]
    by_cases hi : i = src
    · subst hi
      simp [hsrc]
    · simp [hi]

/-! ### The whole command -/

/-- TRAFFIC_RESET writes the store, the entries, the Return Queue, the contracts and the event queue; tickets, tags, credits and counters
stand (R178). -/
theorem resetTraffic_eq (s : State) :
    s.resetTraffic = { s with
      returnQ := s.returnQ ++ s.storedInOrder.map (fun r => bareCompletion r.source (wireTag r.tag) .aborted) ++ s.activeAborts
      holds := Vector.replicate 32 []
      queues := Vector.replicate 4 []
      entries := s.entries.map Entry.orphan
      contracts := s.resetTraffic.contracts
      evq := s.resetTraffic.evq } :=
  restartContracts_eq s.abortTraffic _

theorem resetTraffic_contract (s : State) (i : Fin 32) : s.resetTraffic.contract i = (s.contract i).restarted s.timeBase :=
  (restartContracts_contract s.abortTraffic _ (List.nodup_finRange 32) i).trans (if_pos (List.mem_finRange i))

/-- CONTRACT_APPLIED for each staged copy of a PACED source, by ascending source, and nothing else is raised (R57, R178). -/
theorem resetTraffic_evq (s : State) :
    s.resetTraffic.evq = ((List.finRange 32).foldl (fun (u : State) (i : Fin 32) =>
      if (s.contract i).state = .paced ∧ (s.contract i).staged ≠ none then u.raise (.contractApplied i) else u) s).evq :=
  restartContracts_evq s _ s.abortTraffic s (List.nodup_finRange 32) (fun _ _ => rfl) rfl rfl rfl

theorem resetTraffic_returnQ (s : State) : s.resetTraffic.returnQ =
    s.returnQ ++ s.storedInOrder.map (fun r => bareCompletion r.source (wireTag r.tag) .aborted) ++ s.activeAborts := by
  rw [resetTraffic_eq]

theorem resetTraffic_hold (s : State) (i : Fin 32) : s.resetTraffic.hold i = [] := by
  rw [resetTraffic_eq]
  simp [State.hold]

theorem resetTraffic_queue (s : State) (c : Fin 4) : s.resetTraffic.queue c = [] := by
  rw [resetTraffic_eq]
  simp [State.queue]

theorem resetTraffic_entry (s : State) (d : Fin 64) : s.resetTraffic.entry d = (s.entry d).orphan := by
  rw [resetTraffic_eq]
  simp [State.entry]

section answered

variable (s : State) (opcode : Byte) (status : Status) (data : List Byte)

@[simp] theorem answered_returnQ : (s.answered opcode status data).returnQ = s.returnQ := rfl

@[simp] theorem answered_evq : (s.answered opcode status data).evq = s.evq := rfl

@[simp] theorem answered_hold (i : Fin 32) : (s.answered opcode status data).hold i = s.hold i := rfl

@[simp] theorem answered_queue (c : Fin 4) : (s.answered opcode status data).queue c = s.queue c := rfl

@[simp] theorem answered_entry (d : Fin 64) : (s.answered opcode status data).entry d = s.entry d := rfl

@[simp] theorem answered_contract (i : Fin 32) : (s.answered opcode status data).contract i = s.contract i := rfl

end answered

/-- Settles O45: the length check, and then each table that the command writes read back. -/
theorem trafficResetAbortsAndRestarts : Obligations.TrafficResetAbortsAndRestarts := by
  intro f s h
  have hcheck := lengthCheck_then (c := .trafficReset f) rfl h (Nat.zero_le _)
  refine ⟨hcheck.1, fun hl => ⟨_, hcheck.2 hl, ?_, ?_, fun src => ?_, fun c => ?_, fun d => ?_,
    fun src => ⟨fun hp => ?_, fun hp => ?_, ?_⟩⟩⟩
  · have heq := resetTraffic_eq s
    generalize s.resetTraffic = t at heq ⊢
    dsimp only
    rw [heq]
    rfl
  · rw [answered_returnQ, resetTraffic_returnQ, State.storedInOrder, State.activeAborts]
    refine congrArg₂ (· ++ ·) rfl (congrArg (List.filterMap · _) (funext fun d => ?_))
    cases s.entry d <;> rfl
  · rw [answered_hold, resetTraffic_hold]
  · rw [answered_queue, resetTraffic_queue]
  · rw [answered_entry, resetTraffic_entry]
    cases s.entry d <;> rfl
  · rw [answered_contract, resetTraffic_contract, Contract.restarted_of_not_paced hp]
  · rw [answered_contract, resetTraffic_contract, Contract.restarted_of_paced hp]
    unfold Settings.freshTimer
    cases ((s.contract src).staged.getD (s.contract src).settings).mode <;> rfl
  · rw [answered_evq, resetTraffic_evq]

end Sys2Proof.Machine
end

section
/-! The management port at its pins: what each pin change of a transaction does, the cuts, and the frame parser (R168 to R171, R174). -/

namespace Sys2Proof.Machine

/-! ### Pin changes (R168, R174) -/

section drive

variable {s t : State} {e : PortEdge}

theorem drive_of_no_command (h : s.portEdge e = (t, none)) : s.drive e = .next t := by
  unfold State.drive
  rw [h]

theorem drive_of_command {c : Instr} (h : s.portEdge e = (t, some c)) : s.drive e = exec c t := by
  unfold State.drive
  rw [h]

/-- A change of MDI moves the pin only (R168). -/
theorem portEdge_mdi (s : State) (level : Level) :
    s.portEdge (.mdi level) = ({ s with port := { s.port with mdi := level } }, none) := by
  unfold State.portEdge
  dsimp only
  split <;> rfl

/-- An edge of MSCK outside a transaction moves the pin only (R168, R174). -/
theorem portEdge_msck_of_unselected (level : Level) (h : s.port.mcsN = .high ∨ s.portIgnore = true) :
    s.portEdge (.msck level) = ({ s with port := { s.port with msck := level } }, none) := by
  unfold State.portEdge
  dsimp only
  split
  · rfl
  · exact if_pos h

variable (hr : s.resetN = .high)
include hr

/-- A fall of MCS_N starts a transaction with an empty command (R168). -/
theorem portEdge_select (hm : s.port.mcsN = .high) : s.portEdge (.mcsN .low) = ({ s with
    port := ⟨.low, s.port.msck, s.port.mdi, [], [], none, .low⟩, response := none, portIgnore := false }, none) := by
  rw [portEdge_changed hr (moved_mcsN_ne (by simp [hm]))]
  rfl

theorem portEdge_deselect (hm : s.port.mcsN = .low) :
    s.portEdge (.mcsN .high) = ({ s with port := { s.port with mcsN := .high } } : State).deselect := by
  rw [portEdge_changed hr (moved_mcsN_ne (by simp [hm]))]
  rfl

variable (hi : s.portIgnore = false) (hm : s.port.mcsN = .low)
include hi hm

/-- In a transaction a rise of MSCK clocks a bit (R168). -/
theorem portEdge_msck_rise (hk : s.port.msck = .low) :
    s.portEdge (.msck .high) = ({ s with port := { s.port with msck := .high } } : State).clockRise := by
  rw [portEdge_changed hr (moved_msck_ne (by simp [hk]))]
  exact if_neg (by simp [Port.moved, hm, hi])

/-- In a transaction MDO changes at a fall of MSCK (R168, R169). -/
theorem portEdge_msck_fall (hk : s.port.msck = .high) :
    s.portEdge (.msck .low) = ({ s with port := { s.port with msck := .low, mdo := s.mdoBit s.port.sent } }, none) := by
  rw [portEdge_changed hr (moved_msck_ne (by simp [hk]))]
  exact if_neg (by simp [Port.moved, hm, hi])

end drive

/-! ### The bits of a command (R168) -/

section clockRise

variable {s : State}

/-- After the take a rise of MSCK counts (R169). -/
theorem clockRise_of_taken {n : Nat} (h : s.port.sent = some n) :
    s.clockRise = ({ s with port := { s.port with sent := some (n + 1) } }, none) := by
  simp only [State.clockRise, h]

variable (hsent : s.port.sent = none)
include hsent

/-- A bit before the eighth waits for the rest of its byte (R168). -/
theorem clockRise_of_bit (hlen : s.port.bits.length < 7) (h : reachesTake s.port.bytes = false) :
    s.clockRise = ({ s with port := { s.port with bits := s.port.bits ++ [decide (s.port.mdi = .high)] } }, none) := by
  simp [State.clockRise, hsent, clockIn_of_lt _ _ hlen, h]

variable {bytes : List Byte} (hlen : s.port.bits.length = 7)
  (hbytes : bytes = s.port.bytes ++ [byteOfBits (s.port.bits ++ [decide (s.port.mdi = .high)])])
include hlen hbytes

/-- The eighth bit completes a byte, which is kept where it does not complete the command (R168). -/
theorem clockRise_of_byte (h : reachesTake bytes = false) :
    s.clockRise = ({ s with port := { s.port with bits := [], bytes := bytes } }, none) := by
  rw [hbytes] at h ⊢
  simp [State.clockRise, hsent, clockIn_eighth _ _ hlen, h]

/-- The byte that completes the command is its take (R168). -/
theorem clockRise_of_take (h : reachesTake bytes = true) :
    s.clockRise = ({ s with port := { s.port with bits := [], bytes := [], sent := some 0 } }, decodeFrame bytes) := by
  rw [hbytes] at h ⊢
  simp [State.clockRise, hsent, clockIn_eighth _ _ hlen, h]

end clockRise

/-! ### The end of a transaction and the cuts (R170, R171, R172) -/

section deselect

theorem deselect_of_no_cut {s : State} (hi : s.portIgnore = false) (h : s.cutBy = none) :
    s.deselect = ({ s with port := s.port.cleared, response := none }, none) := by
  simp [State.deselect, hi, h]

theorem deselect_of_cut {s : State} (hi : s.portIgnore = false) {c : Instr} (h : s.cutBy = some c) :
    s.deselect = ({ s with port := s.port.cleared }, some c) := by
  simp [State.deselect, hi, h]

variable {s : State} (hr : s.resetN = .high) (hm : s.port.mcsN = .low)
include hr hm

/-- The rise of MCS_N that ends an ignored period makes the port listen (R174). -/
theorem drive_deselect_of_ignored (hi : s.portIgnore = true) : s.drive (.mcsN .high) = .next { s with
    port := ⟨.high, s.port.msck, s.port.mdi, [], [], none, .low⟩, portIgnore := false } := by
  refine drive_of_no_command ((portEdge_deselect hr hm).trans ?_)
  exact if_pos hi

variable (hi : s.portIgnore = false)
include hi

/-- A rise of MCS_N that cuts nothing ends the transaction and its response (R170, R171). -/
theorem drive_deselect_of_no_cut (h : s.cutBy = none) : s.drive (.mcsN .high) = .next { s with
    port := ⟨.high, s.port.msck, s.port.mdi, [], [], none, .low⟩, response := none } := by
  refine drive_of_no_command ((portEdge_deselect hr hm).trans ?_)
  exact deselect_of_no_cut (s := { s with port := { s.port with mcsN := .high } }) hi h

/-- A rise of MCS_N that cuts a command or a response ends the transaction and gives the cut (R170, R171). -/
theorem drive_deselect_of_cut {c : Instr} (h : s.cutBy = some c) : s.drive (.mcsN .high) = exec c { s with
    port := ⟨.high, s.port.msck, s.port.mdi, [], [], none, .low⟩ } := by
  refine drive_of_command ((portEdge_deselect hr hm).trans ?_)
  exact deselect_of_cut (s := { s with port := { s.port with mcsN := .high } }) hi h

end deselect

section cutBy

variable {s : State}

theorem cutBy_of_no_byte (hs : s.port.sent = none) (hb : s.port.bytes = []) : s.cutBy = none := by
  simp [State.cutBy, hs, hb]

theorem cutBy_of_bytes {opcode : Byte} {rest : List Byte} (hs : s.port.sent = none) (hb : s.port.bytes = opcode :: rest) :
    s.cutBy = some (.commandCut (opcode :: rest)) := by
  simp [State.cutBy, hs, hb]

variable {n : Nat} {r : Response} (hs : s.port.sent = some n) (hr : s.response = some r)
include hs hr

theorem cutBy_of_unfinished (h : n / 8 < r.data.length + 2) : s.cutBy = some (.responseCut (n / 8)) := by
  simp [State.cutBy, hs, hr, h]

theorem cutBy_of_finished (h : r.data.length + 2 ≤ n / 8) : s.cutBy = none := by
  simp [State.cutBy, hs, hr, h]

end cutBy

section cuts

variable {s : State}

/-- COMMAND_CUT records the opcode and the number of bytes received (R170, R172). -/
theorem exec_commandCut {opcode : Byte} {rest : List Byte} (h : s.listening) (hb : reachesTake (opcode :: rest) = false) :
    exec (.commandCut (opcode :: rest)) s = .next
      { s with response := none, frameFault := ⟨.commandCut, opcode, rest.length + 1⟩ } :=
  if_pos ⟨h, hb⟩

/-- RESPONSE_CUT records the opcode and the number of bytes completed (R171, R172). -/
theorem exec_responseCut {done : Nat} {r : Response} (h : s.listening) (hr : s.response = some r) (hd : done < r.data.length + 2) :
    exec (.responseCut done) s = .next { s with response := none, frameFault := ⟨.responseCut, r.opcode, done⟩ } := by
  simp only [exec, execResponseCut, hr]
  exact if_pos ⟨h, hd⟩

variable (h : ¬ s.listening)
include h

/-- A port that does not listen has no command to cut (R174). -/
theorem exec_commandCut_of_not_listening (bytes : List Byte) : exec (.commandCut bytes) s = .next s := by
  cases bytes with
  | nil => rfl
  | cons opcode rest => exact if_neg fun hcut => h hcut.1

theorem exec_responseCut_of_not_listening (done : Nat) : exec (.responseCut done) s = .next s := by
  simp only [exec, execResponseCut]
  split
  · rfl
  · exact if_neg fun hcut => h hcut.1

/-- A port that does not listen takes no command (R174). -/
theorem exec_of_not_listening {i : Instr} (ho : i.opcode? ≠ none) : exec i s = .next s := by
  obtain ⟨opcode, ho⟩ := Option.ne_none_iff_exists'.1 ho
  obtain ⟨a, -, ha⟩ := exec_manages ho s
  rw [ha, manage_not_listening h]

end cuts

/-- Settles O29: the two cuts, a port that does not listen, and MCS_N by what its rise ends. -/
theorem cutsSetTheFrameFault : Obligations.CutsSetTheFrameFault := by
  refine ⟨fun opcode rest s h hb => exec_commandCut h hb, fun done r s h hr hd => exec_responseCut h hr hd,
    fun s h => ⟨fun bytes done => ⟨exec_commandCut_of_not_listening h bytes, exec_responseCut_of_not_listening h done⟩,
      fun i ho => exec_of_not_listening h ho⟩,
    fun s hr hm => drive_of_no_command (portEdge_select hr hm), fun s hr hm => ?_⟩
  intro ended
  refine ⟨drive_deselect_of_ignored hr hm, fun hi => ⟨fun hs hb => ?_, fun opcode rest hs hb hreach => ?_,
    fun n r hs hresp => ⟨fun hn => ?_, fun hn => ?_⟩⟩⟩
  · exact drive_deselect_of_no_cut hr hm hi (cutBy_of_no_byte hs hb)
  · exact (drive_deselect_of_cut hr hm hi (cutBy_of_bytes hs hb)).trans (exec_commandCut ⟨hr, hi⟩ hreach)
  · exact (drive_deselect_of_cut hr hm hi (cutBy_of_unfinished hs hresp hn)).trans (exec_responseCut ⟨hr, hi⟩ hresp hn)
  · exact drive_deselect_of_no_cut hr hm hi (cutBy_of_finished hs hresp hn)

/-! ### The frame parser (R168, R182, R183) -/

theorem commandOf_of_unknown {opcode : Byte} (f : Frame) (h : knownOpcode opcode = false) :
    commandOf opcode f = .unknownOpcode opcode f := by
  have h : opcode.toNat ∉ _ := of_decide_eq_false h
  unfold commandOf
  split
  all_goals simp_all

/-- The row of SOURCE_COMMAND with this command (R39). -/
def sourceRow (f : Frame) (cmd : SourceCmd) : Instr :=
  match cmd with
  | .enable => .enable f
  | .disable => .disable f
  | .bar => .bar f
  | .unbar => .unbar f
  | .arm => .arm f

/-- A SOURCE_COMMAND frame is read as the row of the command it stands for (R39). -/
theorem commandOf_source (f : Frame) : commandOf 0x12#8 f = sourceRow f (SourceCmd.ofFrame f) := rfl

/-- COUNTERS_READ is the row that its clear flag names (R152, R153). -/
theorem commandOf_counters (f : Frame) :
    commandOf 0x40#8 f = if f.clearFlag then .countersReadClear f else .countersRead f := rfl

/-- Opcode and frame of a well-formed command give the command back. -/
theorem commandOf_of_wellFormed {i : Instr} {opcode : Byte} {f : Frame} (hw : i.WellFormed = true) (ho : i.opcode? = some opcode)
    (hf : i.frame? = some f) : f.WellFormed = true ∧ commandOf opcode f = i := by
  cases i with
  | unknownOpcode o g =>
    cases ho; cases hf
    obtain ⟨hframe, hunknown⟩ := Bool.and_eq_true_iff.1 hw
    exact ⟨hframe, commandOf_of_unknown f (by simpa using hunknown)⟩
  | enable g | disable g | bar g | unbar g | arm g =>
    cases ho; cases hf
    obtain ⟨hframe, hcmd⟩ := Bool.and_eq_true_iff.1 hw
    exact ⟨hframe, (commandOf_source f).trans (congrArg (sourceRow f) (of_decide_eq_true hcmd))⟩
  | countersRead g =>
    cases ho; cases hf
    obtain ⟨hframe, hflag⟩ := Bool.and_eq_true_iff.1 hw
    exact ⟨hframe, (commandOf_counters f).trans (if_neg (by simpa using hflag))⟩
  | countersReadClear g =>
    cases ho; cases hf
    obtain ⟨hframe, hflag⟩ := Bool.and_eq_true_iff.1 hw
    exact ⟨hframe, (commandOf_counters f).trans (if_pos hflag)⟩
  | _ => cases ho <;> cases hf <;> exact ⟨hw, rfl⟩

/-- The N payload bytes behind the length byte are the payload, and what comes after them is ignored (R168). -/
theorem decodeFrame_of_wellFormed {f : Frame} (h : f.WellFormed = true) (opcode : Byte) (rest : List Byte) :
    decodeFrame (opcode :: f.index :: f.len :: (f.payload ++ rest)) = some (commandOf opcode f) := by
  have hlen : f.payload.length = payloadRead f.len := of_decide_eq_true h
  have hreach : reachesTake (opcode :: f.index :: f.len :: (f.payload ++ rest)) = true :=
    decide_eq_true (by rw [List.length_append]; omega)
  rw [decodeFrame, if_pos hreach, ← hlen, List.take_left]

theorem decodeFrame_frameBytes {i : Instr} {bytes : List Byte} (rest : List Byte) (hw : i.WellFormed = true)
    (hb : i.frameBytes = some bytes) : decodeFrame (bytes ++ rest) = some i := by
  unfold Instr.frameBytes at hb
  split at hb
  · next opcode f ho hf =>
    cases hb
    obtain ⟨hwf, hcommand⟩ := commandOf_of_wellFormed hw ho hf
    exact (decodeFrame_of_wellFormed hwf opcode rest).trans (congrArg some hcommand)
  · cases hb

/-- Bit `i` of a byte, the most significant bit 0, as a number. -/
theorem getMsbD_toNat (v : Byte) {i : Nat} (h : i < 8) : (v.getMsbD i).toNat = v.toNat / 2 ^ (7 - i) % 2 := by
  rw [BitVec.getMsbD_eq_getLsbD, decide_eq_true h, Bool.true_and]
  exact Nat.toNat_testBit _ _

/-- The first `k` bits of a byte, the most significant first, make its value over 2^(8 − k). -/
theorem foldl_msb_first (v : Byte) {k : Nat} (h : k ≤ 8) :
    ((List.range k).map v.getMsbD).foldl (fun n b => 2 * n + b.toNat) 0 = v.toNat / 2 ^ (8 - k) := by
  induction k with
  | zero => exact (Nat.div_eq_of_lt v.isLt).symm
  | succ k ih =>
    have hsub : 8 - (k + 1) = 7 - k := by omega
    have hpow : 2 ^ (8 - k) = 2 ^ (7 - k) * 2 := by rw [← pow_succ]; congr 1; omega
    rw [List.range_succ, List.map_append, List.foldl_append, ih (by omega), hpow, ← Nat.div_div_eq_div_mul]
    simp only [List.map_cons, List.map_nil, List.foldl_cons, List.foldl_nil, getMsbD_toNat v h, hsub]
    omega

/-- Eight bits, the most significant first, make their byte (R168). -/
theorem byteOfBits_msb_first (v : Byte) : byteOfBits [v.getMsbD 0, v.getMsbD 1, v.getMsbD 2, v.getMsbD 3, v.getMsbD 4, v.getMsbD 5,
    v.getMsbD 6, v.getMsbD 7] = v := by
  have hbits := foldl_msb_first v (le_refl 8)
  rw [Nat.sub_self, pow_zero, Nat.div_one] at hbits
  exact (congrArg (BitVec.ofNat 8) hbits).trans (byteOf_toNat v)

/-! ### MDO (R168, R169) -/

/-- MDO is at high impedance exactly while MCS_N is high or RESET_N is low (R169). -/
theorem mdo_eq_none_iff (s : State) : s.mdo = none ↔ s.resetN = .low ∨ s.port.mcsN = .high := by
  unfold State.mdo
  split
  · next h => exact iff_of_true rfl h
  · next h => exact iff_of_false nofun h

theorem mdo_of_selected {s : State} (hr : s.resetN = .high) (hm : s.port.mcsN = .low) (hi : s.portIgnore = false) :
    s.mdo = some s.port.mdo := by
  simp [State.mdo, hr, hm, hi]

/-- After the take the part drives the status byte, M, the M data bytes, and then 0x00 (R169). -/
theorem mdoAt_of_response {s : State} {r : Response} (h : s.response = some r) (k : Nat) :
    s.mdoAt k = ([r.status.code, byteOf r.data.length] ++ r.data).getD k 0x00#8 := by
  rw [State.mdoAt, State.mdoBytes, h]
  rfl

/-- Settles O60: the parser inverts the encoder, and each edge of MSCK by where in the transaction it comes. -/
theorem frameParserReadsWhatIsSent : Obligations.FrameParserReadsWhatIsSent := by
  refine ⟨fun i bytes rest => decodeFrame_frameBytes rest, byteOfBits_msb_first,
    fun s level _ => ⟨drive_of_no_command (portEdge_mdi s level), fun h => drive_of_no_command (portEdge_msck_of_unselected level h)⟩,
    fun s hr hi hm hk hs => ?_, fun s hr hi hm => ⟨fun n hk hs => ?_, fun hk hs => ?_, fun n r hk hs hresp => ?_⟩,
    fun s => ⟨mdo_eq_none_iff s, mdo_of_selected⟩⟩
  · intro bits
    have hrise := portEdge_msck_rise hr hi hm hk
    have hlength : bits.length = s.port.bits.length + 1 := List.length_append
    refine ⟨fun hlen hreach => ?_, fun hlen => ⟨fun hreach => ?_, fun c hreach hc => ?_⟩⟩
    · refine drive_of_no_command (hrise.trans ?_)
      exact clockRise_of_bit (s := { s with port := { s.port with msck := .high } }) hs (show s.port.bits.length < 7 by omega) hreach
    · refine drive_of_no_command (hrise.trans ?_)
      exact clockRise_of_byte (s := { s with port := { s.port with msck := .high } }) hs (show s.port.bits.length = 7 by omega) rfl hreach
    · refine drive_of_command (hrise.trans ?_)
      rw [← hc]
      exact clockRise_of_take (s := { s with port := { s.port with msck := .high } }) hs (show s.port.bits.length = 7 by omega) rfl hreach
  · exact drive_of_no_command ((portEdge_msck_rise hr hi hm hk).trans (clockRise_of_taken hs))
  · rw [drive_of_no_command (portEdge_msck_fall hr hi hm hk), hs]
    rfl
  · rw [drive_of_no_command (portEdge_msck_fall hr hi hm hk), hs, State.mdoBit, mdoAt_of_response hresp]
    cases r.status <;> rfl

end Sys2Proof.Machine
end

section
/-! What waits to come from outside: no command touches it, and every command completes (logs 3 and 17). Each operation leaves it alone, so
each command has a next state that does; a step then takes the front of the queue and nothing else of it (logs 1, 2, 16 and 20). -/

namespace Sys2Proof.Machine

/-- What the part is still to be given: the commands that wait, the pin changes still to be driven, and how many free choices were made. -/
def State.outside (s : State) : List Instr × List PortEdge × Nat := (s.pending, s.wire, s.choices)

/-- The three fields together, as the frame lemmas give them. -/
theorem outside_of_frame {s t : State} (h : t.pending = s.pending ∧ t.wire = s.wire ∧ t.choices = s.choices) :
    t.outside = s.outside := by
  obtain ⟨hp, hw, hc⟩ := h
  simp only [State.outside, hp, hw, hc]

theorem outside_eq_iff {s t : State} :
    t.outside = s.outside ↔ t.pending = s.pending ∧ t.wire = s.wire ∧ t.choices = s.choices := by
  simp only [State.outside, Prod.mk.injEq]

/-! ### Operations of the management commands -/

theorem pinChange_outside (s : State) (n : Fin 4) (level : Level) : (s.pinChange n level).outside = s.outside := by
  refine outside_of_frame ?_
  simp only [State.pinChange]
  repeat' split
  all_goals simp

theorem writeLine_outside (s : State) (n : Fin 4) (edge : EdgeSetting) (filter : Nat) :
    (s.writeLine n edge filter).outside = s.outside := by
  refine outside_of_frame ?_
  simp only [State.writeLine]
  repeat' split
  all_goals simp

theorem disableSource_outside (s : State) (src : Fin 32) : (s.disableSource src).outside = s.outside := by
  refine outside_of_frame ?_
  by_cases hp : (s.contract src).state = .paced
  · rw [disableSource_of_paced hp, disablePaced_eq, (releaseList_spec src _ _).1]
    simp [State.halt]
  · rw [disableSource_of_not_paced hp]
    exact ⟨rfl, rfl, rfl⟩

theorem barSource_outside (s : State) (src : Fin 32) : (s.barSource src).outside = s.outside :=
  outside_of_frame (by simp [State.barSource])

theorem armSource_outside (s : State) (src : Fin 32) : (s.armSource src).outside = s.outside :=
  outside_of_frame (by simp [State.armSource])

theorem clearGroup_outside (s : State) (g : Group) : (s.clearGroup g).outside = s.outside := by
  cases g <;> rfl

theorem writeClass_outside (s : State) (c : Fin 4) (credit limit : Nat) (edges : Vector Nat 7) :
    (s.writeClass c credit limit edges).outside = s.outside := by
  simp only [State.writeClass]
  split <;> rfl

theorem resetTraffic_outside (s : State) : s.resetTraffic.outside = s.outside := by
  rw [resetTraffic_eq]
  rfl

/-! ### Operations of requests and completions -/

theorem placeArrival_outside (s : State) (r : StoredReq) : (s.placeArrival r).outside = s.outside := by
  refine outside_of_frame ?_
  simp only [State.placeArrival, State.holdRequest]
  repeat' split
  all_goals simp

theorem decideArrival_outside (s : State) (q : Request) (k : Kind) (tag : Fin 16) :
    (s.decideArrival q k tag).outside = s.outside := by
  have hrefuse (reason : Reason) : (s.refuse q.source tag reason).outside = s.outside := outside_of_frame (by simp)
  unfold State.decideArrival
  repeat' split
  any_goals exact hrefuse _
  all_goals exact placeArrival_outside s _

theorem refuseMalformed_outside (s : State) (src : Fin 32) (tag : Fin 64) : (s.refuseMalformed src tag).outside = s.outside :=
  outside_of_frame (by simp [State.refuseMalformed])

/-- The four ways a take goes (R5, R7 to R10). -/
theorem takeRequest_outside (s : State) (q : Request) : (s.takeRequest q).outside = s.outside := by
  simp only [State.takeRequest]
  repeat' split
  · exact refuseMalformed_outside _ _ _
  · exact outside_of_frame (by simp [State.dropDuplicate])
  · exact refuseMalformed_outside _ _ _
  · exact refuseMalformed_outside _ _ _
  · rw [decideArrival_outside]
    exact outside_of_frame (by simp)

/-- Each entry has its own way with a completion (R128). -/
theorem matchCompletion_outside (s : State) (c : DCompletion) : (s.matchCompletion c).outside = s.outside := by
  refine outside_of_frame ?_
  unfold State.matchCompletion
  split
  · simp only [State.completeActive, State.measure, State.offerResidence]
    split <;> simp
  · simp [State.completeLate]
  · simp [State.completeStray]

/-! ### Outcomes -/

/-- An outcome that is a next state, with what waits to come from outside left alone. -/
def State.Completes (s : State) (o : Host.Outcome State Fault Refusal) : Prop :=
  ∃ t, o = .next t ∧ t.outside = s.outside

namespace State.Completes

theorem next {s t : State} (h : t.outside = s.outside) : s.Completes (.next t) := ⟨t, rfl, h⟩

/-- An event that cannot happen now (log 3). -/
theorem unchanged (s : State) : s.Completes (.next s) := next rfl

/-- An outcome chosen by a test completes where both ways do. -/
theorem ite {p : Prop} [Decidable p] {s : State} {o o' : Host.Outcome State Fault Refusal} (h : s.Completes o)
    (h' : s.Completes o') : s.Completes (if p then o else o') := by
  split
  · exact h
  · exact h'

/-- A management command completes: it takes its answer's state where the port listens, and stands else (R169, R174). -/
theorem manage {s : State} {a : Answer} (opcode : Byte) (ha : a.state.outside = s.outside) : s.Completes (s.manage opcode a) := by
  obtain ⟨hp, hw, hc⟩ := outside_eq_iff.1 ha
  obtain ⟨t, hnext, ht⟩ := manage_keeps_queue s opcode a hp hw hc
  exact ⟨t, hnext, outside_of_frame ht⟩

/-- A management command with its length judged first (R173). -/
theorem judged {s : State} {a : Answer} (opcode : Byte) (f : Frame) (ha : a.state.outside = s.outside) :
    s.Completes (s.manage opcode (Machine.judged f s a)) := by
  refine manage opcode ?_
  unfold Machine.judged
  split
  · rfl
  · exact ha

/-- A management command that only reads. -/
theorem read {s : State} {a : Answer} (opcode : Byte) (f : Frame) (ha : a.state = s) :
    s.Completes (s.manage opcode (Machine.judged f s a)) :=
  judged opcode f (congrArg State.outside ha)

end State.Completes

/-! ### Answers of the management port -/

theorem answerSource_outside {s : State} {effect : State → Fin 32 → State} (he : ∀ src, (effect s src).outside = s.outside)
    (cmd : SourceCmd) (f : Frame) : (answerSource cmd effect f s).state.outside = s.outside := by
  unfold answerSource
  repeat' split
  any_goals rfl
  exact he _

theorem answerCounters_outside {s : State} {after : State → Group → State} (ha : ∀ g, (after s g).outside = s.outside) (f : Frame) :
    (answerCounters after f s).state.outside = s.outside := by
  unfold answerCounters
  repeat' split
  any_goals rfl
  exact ha _

theorem answerContractWrite_outside (s : State) (f : Frame) : (answerContractWrite f s).state.outside = s.outside := by
  unfold answerContractWrite
  repeat' split
  all_goals rfl

theorem answerClassWrite_outside (s : State) (f : Frame) : (answerClassWrite f s).state.outside = s.outside := by
  unfold answerClassWrite
  repeat' split
  any_goals rfl
  all_goals exact writeClass_outside s _ _ _ _

theorem answerLineWrite_outside (s : State) (f : Frame) : (answerLineWrite f s).state.outside = s.outside := by
  unfold answerLineWrite
  repeat' split
  any_goals rfl
  exact writeLine_outside s _ _ _

theorem answerRegionWrite_outside (s : State) (f : Frame) : (answerRegionWrite f s).state.outside = s.outside := by
  unfold answerRegionWrite
  repeat' split
  all_goals rfl

theorem answerStatus_outside (s : State) (f : Frame) : (answerStatus f s).state.outside = s.outside := by
  unfold answerStatus
  split <;> rfl

theorem answerGlobalWrite_outside (s : State) (f : Frame) : (answerGlobalWrite f s).state.outside = s.outside := by
  unfold answerGlobalWrite
  repeat' split
  all_goals rfl

theorem answerEventRelease_outside (s : State) (f : Frame) : (answerEventRelease f s).state.outside = s.outside := by
  unfold answerEventRelease
  repeat' split
  all_goals rfl

theorem answerTrafficReset_outside (s : State) (f : Frame) : (answerTrafficReset f s).state.outside = s.outside := by
  unfold answerTrafficReset
  split
  · rfl
  · dsimp only
    exact resetTraffic_outside s

/-- The commands of the management port. -/
theorem exec_management_completes {c : Instr} (hc : c.frame?.isSome = true) (s : State) : s.Completes (exec c s) := by
  cases c with
  | enable f => exact .judged _ f (answerSource_outside (fun src => by rw [enableSource_eq]; rfl) _ f)
  | disable f => exact .judged _ f (answerSource_outside (disableSource_outside s) _ f)
  | bar f => exact .judged _ f (answerSource_outside (barSource_outside s) _ f)
  | unbar f => exact .judged _ f (answerSource_outside (fun _ => rfl) _ f)
  | arm f => exact .judged _ f (answerSource_outside (armSource_outside s) _ f)
  | contractWrite f => exact .judged _ f (answerContractWrite_outside s f)
  | regionWrite f => exact .judged _ f (answerRegionWrite_outside s f)
  | classWrite f => exact .judged _ f (answerClassWrite_outside s f)
  | lineWrite f => exact .judged _ f (answerLineWrite_outside s f)
  | globalWrite f => exact .judged _ f (answerGlobalWrite_outside s f)
  | countersRead f => exact .judged _ f (answerCounters_outside (fun _ => rfl) f)
  | countersReadClear f => exact .judged _ f (answerCounters_outside (clearGroup_outside s) f)
  | status f => exact .judged _ f (answerStatus_outside s f)
  | eventRelease f => exact .judged _ f (answerEventRelease_outside s f)
  | trafficReset f => exact .judged _ f (answerTrafficReset_outside s f)
  | unknownOpcode o f => exact .manage o rfl
  | identify f => exact .read _ f (answerIdentify_state f s)
  | timeRead f => exact .read _ f (answerTimeRead_state f s)
  | contractRead f => exact .read _ f (answerContractRead_state f s)
  | holdRead f => exact .read _ f (answerHoldRead_state f s)
  | regionRead f => exact .read _ f (answerRegionRead_state f s)
  | classRead f => exact .read _ f (answerClassRead_state f s)
  | lineRead f => exact .read _ f (answerLineRead_state f s)
  | globalRead f => exact .read _ f (answerGlobalRead_state f s)
  | eventRead f => exact .read _ f (answerEventRead_state f s)
  | _ => cases hc

/-! ### The part's own events -/

theorem execHandOver_completes (s : State) : s.Completes (execHandOver s) := by
  unfold execHandOver
  split
  · exact .unchanged s
  · exact .next (by rw [handOverHead_eq]; rfl)

theorem execGrant_completes (s : State) : s.Completes (execGrant s) := by
  unfold execGrant
  repeat' split
  · exact .next rfl
  all_goals exact .unchanged s

theorem execResponseTimeout_completes (s : State) (d : Fin 64) : s.Completes (execResponseTimeout d s) := by
  unfold execResponseTimeout
  refine .ite ?_ (.unchanged s)
  split
  · exact .next (outside_of_frame (by simp [State.timeOut]))
  all_goals exact .unchanged s

theorem execTransitionSettles_completes (s : State) (n : Fin 4) : s.Completes (execTransitionSettles n s) := by
  unfold execTransitionSettles
  refine .ite ?_ (.unchanged s)
  split
  · exact .next (outside_of_frame (by simp))
  · exact .unchanged s

theorem execCommandCut_completes (s : State) (bytes : List Byte) : s.Completes (execCommandCut bytes s) := by
  cases bytes with
  | nil => exact .unchanged s
  | cons opcode rest => exact .ite (.next rfl) (.unchanged s)

theorem execResponseCut_completes (s : State) (done : Nat) : s.Completes (execResponseCut done s) := by
  unfold execResponseCut
  split
  · exact .unchanged s
  · exact .ite (.next rfl) (.unchanged s)

/-- An event raised last, after an operation that leaves the outside alone. -/
theorem raise_completes {s t : State} (h : t.outside = s.outside) (e : Event) : s.Completes (.next (t.raise e)) :=
  .next ((outside_of_frame (by simp)).trans h)

/-- Every command has a next state, whether its event can happen or not (logs 3 and 17). -/
theorem exec_completes (c : Instr) (s : State) : s.Completes (exec c s) := by
  cases c with
  | powerOnReset mcsN => exact .next rfl
  | resetNFall => exact .ite (.unchanged s) (.next rfl)
  | upstreamReset => exact .ite (.next rfl) (.ite (.unchanged s) (raise_completes rfl _))
  | upRdyRise => exact .next rfl
  | downstreamDown => exact .ite (.next rfl) (raise_completes rfl _)
  | downstreamUp => exact .ite (.next rfl) (raise_completes rfl _)
  | take header data => exact .ite (.next (takeRequest_outside s _)) (.unchanged s)
  | handOver => exact execHandOver_completes s
  | grant => exact execGrant_completes s
  | downstreamCompletion header data => exact .ite (.unchanged s) (.next (matchCompletion_outside s _))
  | responseTimeout d => exact execResponseTimeout_completes s d
  | boundary src => exact .ite (.next (outside_of_frame (by simp))) (.unchanged s)
  | headExpiry src => exact .ite (.next (outside_of_frame (by simp))) (.unchanged s)
  | windowEnd src => exact .ite (.next (outside_of_frame (by simp))) (.unchanged s)
  | triggerPinChange n level => exact .ite (.next rfl) (.ite (.unchanged s) (.next (pinChange_outside s n level)))
  | transitionSettles n => exact execTransitionSettles_completes s n
  | commandCut bytes => exact execCommandCut_completes s bytes
  | responseCut done => exact execResponseCut_completes s done
  | _ => exact exec_management_completes rfl s

/-- Settles O3: each command's outcome is a next state, reached through operations that leave the outside alone. -/
theorem everyCommandCompletes : Obligations.EveryCommandCompletes := by
  intro c s
  obtain ⟨t, hnext, houtside⟩ := exec_completes c s
  exact ⟨t, hnext, outside_eq_iff.1 houtside⟩

/-- With a command at the front of the queue a step is that command on the state with the rest (log 1). -/
theorem step_of_pending {s : State} {c : Instr} {rest : List Instr} (h : s.pending = c :: rest) :
    step s = exec c { s with pending := rest } := by
  simp only [step, h]

/-- Settles O1: the queue written over is the one that the step takes its command from. -/
theorem stepRunsFrontCommand : Obligations.StepRunsFrontCommand := by
  intro c rest s
  exact step_of_pending (s := { s with pending := c :: rest }) rfl

end Sys2Proof.Machine
end
